-- ==== Sys2Proof/Word.lean ====
section
/-! DEFINITION. The word types of the LA2464: the 16-bit data word every link carries, and the wider
values the manual counts modulo a power of two. -/

namespace Sys2Proof

/-- A 16-bit data word, the unit every link and the fragment store carry (R74, R134). -/
abbrev Word := BitVec 16

/-- A trigger tag, 0 to 65,535, compared modulo 65,536 (R43, R57). -/
abbrev Tag := BitVec 16

/-- A reading of the microsecond timebase, which wraps at 4,294,967,296 (R29). -/
abbrev Time := BitVec 32

/-- A 48-bit bunch count, carried and never compared (R57). -/
abbrev Stamp := BitVec 48

/-- A set of front links: bit n is set when link n, 0 to 23, is a member (R194). -/
abbrev LinkSet := BitVec 24

/-- A front link number, FL0 to FL23. -/
abbrev LinkNo := Fin 24

/-- A slot number of the event table ring (R1). -/
abbrev SlotNo := Fin 64

/-- A trigger class number (R57). -/
abbrev ClassNo := Fin 8

/-- A requester of the conditioning arbiter: 0 to 23 are the front links, 24 the adoption queue (R109). -/
abbrev Requester := Fin 25

/-- A row of the cathode plane (R97). -/
abbrev RowNo := Fin 48

end Sys2Proof
end

