-- ==== Sys2Proof/Syntax.lean ====
section
/-! DEFINITION. The commands of the LA2464: one constructor per row of spec/opcode_table.json. A command is one
whole step of the part (spec/95_what_each_step_holds.md): a code arriving on a link, an expiry, a step of the
arbiter, the conditioning unit or the emitter, or run control taking one request. -/

namespace Sys2Proof

/-- A flow symbol, or the flow state it stands for (R74, R194). -/
inductive Flow where
  | go
  | hold
  deriving DecidableEq, Repr

/-- The link on whose inbound lane a code arrives (scope file, "How the outside reaches the part"). -/
inductive Lane where
  | front (n : LinkNo)
  | timing
  | uplink
  deriving DecidableEq, Repr

/-- The commands, in the order of spec/opcode_table.json. The table gives no operands: a code on a link carries
the lane it arrives on (and its data word), an expiry carries the link or slot whose timer expires, and the
rows by which run control takes a request carry nothing, since the request is the one at the head of the
inbound request queue (R166, R174; DESIGN CHOICE, log entry 3). -/
inductive Instr where
  /-- COLD_RESET: the cold-reset pin is asserted and released (R188). -/
  | coldReset
  /-- SYMBOL_LOCK: the receiver of a lane acquires symbol lock (R76). -/
  | symbolLock (lane : Lane)
  /-- LINK_IDLE: an IDLE arrives (R76). -/
  | linkIdle (lane : Lane)
  /-- LINK_START: a START arrives (R78). -/
  | linkStart (lane : Lane)
  /-- LINK_DATA_WORD: a data word arrives (R78). -/
  | linkDataWord (lane : Lane) (word : Word)
  /-- LINK_END: an END arrives (R80). -/
  | linkEnd (lane : Lane)
  /-- LINK_CUT: a CUT arrives (R84). -/
  | linkCut (lane : Lane)
  /-- LINK_CODE_ERROR: a code error arrives (R77). -/
  | linkCodeError (lane : Lane)
  /-- FARM_FLOW_SYMBOL: a HOLD or GO arrives on the uplink (R164). -/
  | farmFlowSymbol (symbol : Flow)
  /-- FRONT_STALL_EXPIRY: the stall timer of a front frame expires (R85). -/
  | frontStallExpiry (link : LinkNo)
  /-- TIMING_STALL_EXPIRY: the stall timer of a timing frame expires (R58). -/
  | timingStallExpiry
  /-- REQUEST_STALL_EXPIRY: the stall timer of a request frame expires (R165). -/
  | requestStallExpiry
  /-- ARBITER_GRANT: the conditioning arbiter grants a requester (R111). Where the grant also delivers a pending
  loss notice, `noticeFirst` says which of the two is taken first, which R24 leaves open (DESIGN CHOICE, log entry 8). -/
  | arbiterGrant (noticeFirst : Bool)
  /-- BURST_PROCESSING: the conditioning job processes one burst (R119). -/
  | burstProcessing
  /-- CONDITIONING_JOB_END: a conditioning job ends (R114). -/
  | conditioningJobEnd
  /-- PARK_JOB_END: a park job ends (R47). -/
  | parkJobEnd
  /-- FIRST_EXPIRY: the first deadline of a slot expires (R32). -/
  | firstExpiry (slot : SlotNo)
  /-- SECOND_EXPIRY: the second deadline of a slot expires (R34). -/
  | secondExpiry (slot : SlotNo)
  /-- ORPHAN_EXPIRY: the oldest orphan entry that is due expires (R48). -/
  | orphanExpiry
  /-- EVENT_FRAME_START: the emitter starts the event frame of the slot at get (R160). -/
  | eventFrameStart
  /-- EVENT_FRAME_WORD_SENT: the emitter sends one word of the event frame (R163). -/
  | eventFrameWordSent
  /-- EVENT_FRAME_END: the END of the event frame is sent (R162). -/
  | eventFrameEnd
  /-- REPLY_FRAME_START: the reply at the head of the reply queue starts to be sent (R159). -/
  | replyFrameStart
  /-- REPLY_FRAME_END: the END of the reply frame is sent (R167). -/
  | replyFrameEnd
  /-- DRAIN_COMPLETION: the drain completes (R184). -/
  | drainCompletion
  /-- READ: run control takes a READ request (R176). -/
  | read
  /-- WRITE: run control takes a WRITE request that names no space of its own row (R178). -/
  | write
  /-- WRITE_GENERAL: run control takes a WRITE to GENERAL (R177). -/
  | writeGeneral
  /-- WRITE_WINDOWS: run control takes a WRITE to WINDOWS (R101). -/
  | writeWindows
  /-- WRITE_ROWS: run control takes a WRITE to ROWS (R101). -/
  | writeRows
  /-- SETUP_DONE: run control takes a Setup done command (R182). -/
  | setupDone
  /-- START: run control takes a Start command (R183). -/
  | start
  /-- STOP: run control takes a Stop command (R184). -/
  | stop
  /-- FLUSH: run control takes a Flush command (R39). -/
  | flush
  /-- WARM_RESET: run control takes a Warm reset command (R189). -/
  | warmReset
  /-- CLEAR_COUNTERS: run control takes a Clear counters command (R186). -/
  | clearCounters
  /-- CLEAR_ERRORS: run control takes a Clear errors command (R187). -/
  | clearErrors
  /-- BAR_LINK: run control takes a Bar link command (R90). -/
  | barLink
  /-- UNBAR_LINK: run control takes an Unbar link command (R91). -/
  | unbarLink
  /-- PEDESTAL_START: run control takes a Pedestal start command (R148). -/
  | pedestalStart
  /-- PEDESTAL_STOP: run control takes a Pedestal stop command (R149). -/
  | pedestalStop
  /-- PEDESTAL_ADOPT: run control takes a Pedestal adopt command (R153). -/
  | pedestalAdopt
  /-- UNDEFINED_REQUEST: run control takes a request of an undefined kind or verb (R175). -/
  | undefinedRequest
  /-- INBOUND_FLOW_SYMBOL: a HOLD or GO arrives on a front link or on the timing link (R76). -/
  | inboundFlowSymbol (lane : Lane) (symbol : Flow)
  deriving DecidableEq, Repr

end Sys2Proof
end

