-- ==== Sys2Proof/Decode.lean ====
section
/-! DEFINITION. The command a word of spec/opcode_table.json spells. No row of the table gives bits (its
rows have neither "fixed" nor "fields"), so no word spells a command. The line codes of R192, which do have an
encoding, are in Machine/LineCode.lean. -/

namespace Sys2Proof

/-- No row of the table gives bits, so every word is refused. -/
def decodeTableWord (_nbits _w : Nat) : Option Instr := none

end Sys2Proof
end

