-- ==== Sys2Proof/Machine/Bits.lean ====
section
/-! DEFINITION. Fields of words and the carriers of wide values and link sets (R194). -/

namespace Sys2Proof.Machine

/-- The value of the `len` bits of a word from bit `lo` upward. -/
def field (w : Word) (lo len : Nat) : Nat := (w.toNat >>> lo) % 2 ^ len

/-- A word from a number; the numbers the layouts carry fit. -/
def toWord (n : Nat) : Word := BitVec.ofNat 16 n

/-- A field placed at bit `lo` of a word. -/
def atBit (n lo : Nat) : Nat := n <<< lo

/-- A flag placed at bit `lo` of a word. -/
def flagAt (b : Bool) (lo : Nat) : Nat := if b then 2 ^ lo else 0

/-- A 32-bit value in two words, the high word first (R194). -/
def wide32 (n : Nat) : List Word := [toWord (n / 65536), toWord n]

/-- A 48-bit timestamp in three words, the most significant first (R194). -/
def wide48 (t : Stamp) : List Word :=
  [toWord (t.toNat / 4294967296), toWord (t.toNat / 65536), toWord t.toNat]

/-- The timestamp three words carry (R194). -/
def stampOf (hi mid lo : Word) : Stamp :=
  BitVec.ofNat 48 (hi.toNat * 4294967296 + mid.toNat * 65536 + lo.toNat)

/-- Membership of a link in a link set. -/
def inSet (ls : LinkSet) (n : LinkNo) : Bool := ls.getLsbD n.val

/-- The set of the links that meet a test. -/
def linkSetOf (p : LinkNo → Bool) : LinkSet :=
  BitVec.ofNat 24 ((List.ofFn (fun n : LinkNo => flagAt (p n) n.val)).foldl (· + ·) 0)

/-- A link set in two words: links 0 to 15, then links 16 to 23 in the low bits (R194). -/
def linkSetWords (ls : LinkSet) : List Word := [toWord ls.toNat, toWord (ls.toNat / 65536)]

/-- The link set two words carry; bits 15 to 8 of the second are ignored (R194). -/
def linkSetFrom (lo hi : Word) : LinkSet := BitVec.ofNat 24 (lo.toNat + (hi.toNat % 256) * 65536)

end Sys2Proof.Machine
end

