-- ==== Sys2Proof/Config.lean ====
section
/-! DEFINITION. The fixed sizes and levels of the LA2464. The manual leaves none of them open, so the
configuration holds plain numbers and no free value. -/

namespace Sys2Proof.Config

/-- Words of one front link's input FIFO (R86). -/
def fifoWords : Nat := 8192

/-- FIFO occupancy at and above which a front receiver sends HOLD and is urgent (R88, R110). -/
def fifoHoldLevel : Nat := 6144

/-- FIFO occupancy at and below which a front receiver sends GO (R88). -/
def fifoGoLevel : Nat := 2048

/-- Smallest data word count of a front fragment frame, CRC word included (R80, R195). -/
def frontMinWords : Nat := 4

/-- Largest data word count of a front fragment frame, CRC word included (R83, R195). -/
def frontMaxWords : Nat := 4096

/-- Data words of a trigger message: five content words and the CRC word (R57, R195). -/
def triggerWords : Nat := 6

/-- Words of the uplink receive buffer (R165). -/
def requestBufferWords : Nat := 512

/-- Consecutive IDLEs that take a receiver from ALIGNING to LIVE (R76). -/
def idlesToLive : Nat := 64

/-- Consecutive code errors that take a receiver from LIVE to DARK (R77). -/
def errorsToDark : Nat := 4

/-- Cells of the fragment store (R134). -/
def cellCount : Nat := 8192

/-- Words of one cell (R134). -/
def cellWords : Nat := 64

/-- Entries the orphan list can hold (R45). -/
def orphanCapacity : Nat := 16

/-- Requests the inbound request queue can hold (R166). -/
def requestCapacity : Nat := 4

/-- Replies the reply queue can hold (R167). -/
def replyCapacity : Nat := 4

/-- Largest entry count of one READ or WRITE (R175). -/
def maxEntries : Nat := 16

/-- Pads of the pad parameter table and of the accumulator (R97, R146). -/
def padCount : Nat := 3072

/-- The ADC overflow code, and the largest sample value (R117, R121). -/
def overflowCode : Nat := 1023

/-- Limit of a run control counter (R180). -/
def counterMax : Nat := 4294967295

/-- Limit of the pending skipped count and of a slot's skipped-before (R68). -/
def skippedMax : Nat := 65535

/-- Limit of a slot's late and duplicate counts (R12, R13). -/
def dropMax : Nat := 255

/-- Count at which an accumulator entry holds (R151). -/
def accumulatorMax : Nat := 65535

/-- Words of the event frame header (R200). -/
def eventHeaderWords : Nat := 20

/-- Words of the event frame trailer (R200). -/
def eventTrailerWords : Nat := 3

/-- Words of a section header of the event frame (R200). -/
def sectionHeaderWords : Nat := 4

end Sys2Proof.Config
end

