-- ==== Sys2Proof/Machine/Bank.lean ====
section
/-! DEFINITION. A bank: a fixed number of like things, read and written by an index that cannot leave the bank.
It is a list with its length, so that every operation on it is structural and the kernel can evaluate it. -/

namespace Sys2Proof.Machine

/-- `n` things of one type, in index order. -/
structure Bank (α : Type) (n : Nat) where
  /-- The things, the one of index 0 first. -/
  list : List α
  /-- There are `n` of them. -/
  len : list.length = n
  deriving DecidableEq, Repr

/-- The thing at an index. -/
def Bank.get {α : Type} {n : Nat} (b : Bank α n) (i : Fin n) : α :=
  b.list.get (i.cast b.len.symm)

/-- The bank with one thing replaced. -/
def Bank.set {α : Type} {n : Nat} (b : Bank α n) (i : Fin n) (a : α) : Bank α n :=
  ⟨b.list.set i.val a, by rw [List.length_set]; exact b.len⟩

/-- A bank of equal things. -/
def Bank.fill {α : Type} (n : Nat) (a : α) : Bank α n :=
  ⟨List.replicate n a, List.length_replicate⟩

/-- A bank given index by index. -/
def Bank.build {α : Type} {n : Nat} (f : Fin n → α) : Bank α n :=
  ⟨List.ofFn f, List.length_ofFn⟩

/-- Every thing changed in the same way. -/
def Bank.map {α β : Type} {n : Nat} (b : Bank α n) (f : α → β) : Bank β n :=
  ⟨b.list.map f, by rw [List.length_map]; exact b.len⟩

/-- Some thing of the bank meets the test. -/
def Bank.any {α : Type} {n : Nat} (b : Bank α n) (p : α → Bool) : Bool := b.list.any p

/-- How many things of the bank meet the test. -/
def Bank.count {α : Type} {n : Nat} (b : Bank α n) (p : α → Bool) : Nat := b.list.countP p

/-- The indices of a bank of `n` things, in ascending order. -/
def indices (n : Nat) : List (Fin n) := List.ofFn id

end Sys2Proof.Machine
end

