-- ==== Sys2Proof/Machine/Crc.lean ====
section
/-! DEFINITION. The CRC word of every frame (R81, R193). -/

namespace Sys2Proof.Machine

/-- The start value of the CRC register (R193 step 1). -/
def crcStart : Word := 0xFFFF

/-- One input bit: shift left by one, and combine with 0x1021 if the bit that left differs from the input (R193
step 3). -/
def crcBit (reg : Word) (bit : Bool) : Word :=
  if reg.getLsbD 15 = bit then reg <<< 1 else (reg <<< 1) ^^^ 0x1021

/-- The bits of a word, the most significant first (R193 step 2). -/
def wordBits (w : Word) : List Bool := List.ofFn (fun i : Fin 16 => w.getLsbD (15 - i.val))

/-- The register after one more word. -/
def crcWord (reg w : Word) : Word := (wordBits w).foldl crcBit reg

/-- The CRC word of a frame whose words before it are given (R193 step 4: no final inversion). -/
def crcOf (ws : List Word) : Word := ws.foldl crcWord crcStart

end Sys2Proof.Machine
end

