-- ==== Sys2Proof/Machine/Memory.lean ====
section
/-! DEFINITION. A sparse memory: the addressed contents of a table or of the fragment store, as a list of
address and value pairs in one canonical form, so that equal memories are equal lists. An address that is not
listed reads as the memory's default. -/

namespace Sys2Proof.Machine

/-- Address and value pairs, addresses strictly rising, no value equal to the default. -/
abbrev Memory (α : Type) := List (Nat × α)

/-- What an address reads as. -/
def Memory.read {α : Type} (d : α) : Memory α → Nat → α
  | [], _ => d
  | (k, v) :: rest, a => if k = a then v else Memory.read d rest a

/-- Writing one address. Writing the default removes the entry, so the canonical form is kept. -/
def Memory.write {α : Type} [DecidableEq α] (d : α) : Memory α → Nat → α → Memory α
  | [], a, v => if v = d then [] else [(a, v)]
  | (k, w) :: rest, a, v =>
    if a < k then (if v = d then (k, w) :: rest else (a, v) :: (k, w) :: rest)
    else if a = k then (if v = d then rest else (a, v) :: rest)
    else (k, w) :: Memory.write d rest a v

/-- Writing several addresses, in the order given. -/
def Memory.writeAll {α : Type} [DecidableEq α] (d : α) (m : Memory α) (l : List (Nat × α)) : Memory α :=
  l.foldl (fun m p => Memory.write d m p.1 p.2) m

/-- The canonical form, above a lower bound on the addresses. -/
def Memory.wfFrom {α : Type} [DecidableEq α] (d : α) : Nat → Memory α → Bool
  | _, [] => true
  | b, (k, v) :: rest => decide (b ≤ k) && decide (v ≠ d) && Memory.wfFrom d (k + 1) rest

/-- The canonical form: addresses strictly rising, and no listed value equal to the default. -/
def Memory.wf {α : Type} [DecidableEq α] (d : α) (m : Memory α) : Bool := Memory.wfFrom d 0 m

end Sys2Proof.Machine
end

