-- ==== Sys2Proof/Machine/State.lean ====
section
/-! DEFINITION. The state of the LA2464 as plain data, block by block as the manual lists the blocks, and the
state after reset. -/

namespace Sys2Proof.Machine

/-! ### Links -/

/-- Link state of a receiver (R76). BARRED is a front link state only. -/
inductive LinkState where
  | dark
  | aligning
  | live
  | barred
  deriving DecidableEq, Repr

/-- Frame state of a receiver (R78). -/
inductive FrameState where
  | outside
  | receiving
  | discarding
  deriving DecidableEq, Repr

/-- What every receiver holds (R76 to R78, R85). -/
structure Receiver where
  link : LinkState
  /-- Consecutive IDLEs counted in ALIGNING (R76). -/
  idleCount : Nat
  /-- Consecutive code errors counted in LIVE (R77). -/
  codeErrors : Nat
  frame : FrameState
  /-- The data words of the frame in RECEIVING, oldest first; their number is the word count of R78. In a front
  receiver they stand at the tail of the FIFO, on the uplink in the receive buffer of R165. -/
  words : List Word
  /-- The running CRC: the CRC of the data words before the last one received (R81). -/
  crc : Word
  /-- The reading at which the running stall timer expires; none while it is stopped (R85). -/
  stall : Option Time
  deriving DecidableEq, Repr

/-- A receiver that holds no frame, in a link state. Its words, CRC and timer: DESIGN CHOICE, log entry 16. -/
def Receiver.quiet (l : LinkState) : Receiver :=
  { link := l, idleCount := 0, codeErrors := 0, frame := .outside, words := [], crc := crcStart, stall := none }

/-- Loss notice state of a front receiver (R92). -/
inductive NoticeState where
  | none
  | pending
  | delivered
  deriving DecidableEq, Repr

/-- What the return lane of a front link or of the timing link has still to send at its next word boundary (R71, R89, R93). -/
inductive Due where
  | none
  /-- The symbol of the flow state once more, after entry to LIVE. -/
  | again
  /-- The symbol of the flow state, which has changed since the lane last sent it. -/
  | changed
  deriving DecidableEq, Repr

/-- What is due after entry to LIVE: a change that waits for the same boundary is sent by the same symbol (R93). -/
def Due.orAgain : Due → Due
  | .none | .again => .again
  | .changed => .changed

/-- What a front link receiver holds beyond the common receiver (R86, R88, R89, R92). -/
structure FrontLink where
  rx : Receiver
  /-- Committed frames not yet granted, oldest first, each with all its data words, the CRC word included. -/
  waiting : List (List Word)
  /-- The frame held by the job in progress. -/
  held : Option (List Word)
  /-- Flow state toward the card (R88). -/
  flow : Flow
  /-- What the return lane sends at its next word boundary (R89, R93). -/
  due : Due
  notice : NoticeState
  deriving DecidableEq, Repr

/-- A front link after a cold reset (R95). -/
def FrontLink.cold : FrontLink :=
  { rx := Receiver.quiet .dark, waiting := [], held := none, flow := .go, due := .none, notice := .none }

/-- A code, other than IDLE, that the part sends on a lane (R74, R75, R157). -/
inductive LaneCode where
  | start
  | data (w : Word)
  | endCode
  | cut
  | flow (f : Flow)
  deriving DecidableEq, Repr

/-! ### Fragment records and slots -/

/-- The fragment flags of a record (R4). -/
structure FragFlags where
  feOverflow : Bool
  fePartial : Bool
  malformed : Bool
  truncated : Bool
  storeFull : Bool
  unmapped : Bool
  clipped : Bool
  adopted : Bool
  extra : Bool
  deriving DecidableEq, Repr

/-- No flag set. -/
def FragFlags.clear : FragFlags := ⟨false, false, false, false, false, false, false, false, false⟩

/-- A fragment record (R4). `cells` is the chain the record still owns, in chain order: all of it until the
emitter returns its cells one by one from the front (R141). -/
structure FragRecord where
  cells : List Nat
  pulseCount : Nat
  wordCount : Nat
  flags : FragFlags
  deriving DecidableEq, Repr

/-- State of a slot (R3). -/
inductive SlotState where
  | free
  | opened
  | extended
  | closing
  | closed
  | emitting
  deriving DecidableEq, Repr

/-- Contribution state of an expected link (R5). -/
inductive Contribution where
  | awaited
  | queued
  | conditioning
  | arrived
  | missing
  | lost
  | absent
  deriving DecidableEq, Repr

/-- State of a member of the extras set (R6). -/
inductive ExtraState where
  | conditioning
  | recorded
  deriving DecidableEq, Repr

/-- Closure cause (R18). -/
inductive Cause where
  | none
  | allIn
  | firstDeadline
  | secondDeadline
  | flush
  deriving DecidableEq, Repr

/-- Status of a slot (R19). `partly` is PARTIAL, a word Lean keeps for itself. -/
inductive Status where
  | none
  | complete
  | partly
  | flushed
  deriving DecidableEq, Repr

/-- A slot record (R3). The deadline stands in the deadline unit's own record. -/
structure Slot where
  state : SlotState
  tag : Tag
  cls : ClassNo
  stamp : Stamp
  skippedBefore : Nat
  /-- The contribution map: one state for each expected link, none for the others (R5). -/
  contribs : Bank (Option Contribution) 24
  /-- The extras set (R6). -/
  extras : Bank (Option ExtraState) 24
  /-- At most one record per link (R3). -/
  records : Bank (Option FragRecord) 24
  cause : Cause
  status : Status
  late : Nat
  duplicate : Nat
  deriving DecidableEq, Repr

/-- The record of a FREE slot (R3). -/
def Slot.empty : Slot :=
  { state := .free, tag := 0, cls := 0, stamp := 0, skippedBefore := 0, contribs := Bank.fill 24 none,
    extras := Bank.fill 24 none, records := Bank.fill 24 none, cause := .none, status := .none, late := 0,
    duplicate := 0 }

/-- Stage of a deadline (R30). -/
inductive Stage where
  | none
  | first
  | second
  deriving DecidableEq, Repr

/-- A deadline record (R30). -/
structure Deadline where
  stage : Stage
  admitted : Time
  expiry : Time
  deriving DecidableEq, Repr

/-- The deadline record of a FREE slot (R30). -/
def Deadline.empty : Deadline := ⟨.none, 0, 0⟩

/-! ### Orphans and the job -/

/-- An entry of the orphan list (R45). -/
structure Orphan where
  link : LinkNo
  tag : Tag
  parkTime : Time
  cells : List Nat
  wordCount : Nat
  deriving DecidableEq, Repr

/-- An entry of the adoption queue (R50). -/
structure Adopted where
  link : LinkNo
  tag : Tag
  slot : SlotNo
  /-- Expected entry, or else extra candidate. -/
  expected : Bool
  cells : List Nat
  wordCount : Nat
  deriving DecidableEq, Repr

/-- Where a job reads its fragment (R113). -/
inductive JobSource where
  /-- The frame held in the FIFO of the job's link. -/
  | fifo
  /-- An adopted raw copy: its chain and its word count. -/
  | copy (cells : List Nat) (wordCount : Nat)
  deriving DecidableEq, Repr

/-- The outcome of a job that lasts beyond its grant (R113, R114). -/
inductive JobOutcome where
  | condition (slot : SlotNo)
  | park
  deriving DecidableEq, Repr

/-- The job record (R113). -/
structure Job where
  requester : Requester
  link : LinkNo
  source : JobSource
  outcome : JobOutcome
  tag : Tag
  /-- Whether any front link was urgent at the grant (R110, R120). -/
  urgent : Bool
  /-- Cells taken so far for the record or for the parked copy. -/
  cells : List Nat
  pulseCount : Nat
  wordCount : Nat
  flags : FragFlags
  /-- Words of the source read so far. -/
  position : Nat
  /-- Processing has stopped, at a malformed burst or a refused pulse (R118, R130). -/
  stopped : Bool
  /-- The job has raised the pedestal skip counter (R120). -/
  skipCounted : Bool
  deriving DecidableEq, Repr

/-! ### Tables -/

/-- Class kind (R194). -/
inductive ClassKind where
  | disabled
  | physics
  | calibration
  | pedestal
  deriving DecidableEq, Repr

/-- An entry of the class table (R178, R190). -/
structure ClassEntry where
  kind : ClassKind
  expected : LinkSet
  admission : Nat
  t1 : Nat
  t2 : Nat
  stragglers : Nat
  driftWindow : Nat
  preSamples : Nat
  postSamples : Nat
  minWidth : Nat
  mergeGap : Nat
  cellLimit : Nat
  deriving DecidableEq, Repr

/-- A class after a cold reset (R190). -/
def ClassEntry.cold : ClassEntry :=
  { kind := .disabled, expected := 0, admission := 64, t1 := 150, t2 := 100, stragglers := 2, driftWindow := 1024,
    preSamples := 2, postSamples := 4, minWidth := 2, mergeGap := 2, cellLimit := 64 }

/-- The general settings (R178, R190, R197). -/
structure General where
  segment : Nat
  lookAhead : Nat
  parkTime : Nat
  eventHold : Nat
  eventRelease : Nat
  cellHold : Nat
  cellResume : Nat
  stallTimeout : Nat
  deriving DecidableEq, Repr

/-- The general settings after a cold reset (R190). -/
def General.cold : General :=
  { segment := 0, lookAhead := 64, parkTime := 200, eventHold := 56, eventRelease := 40, cellHold := 1024,
    cellResume := 2048, stallTimeout := 50 }

/-- Direction of a map window (R96). -/
inductive Direction where
  | ascending
  | descending
  deriving DecidableEq, Repr

/-- A map window (R96). -/
structure MapWindow where
  valid : Bool
  link : LinkNo
  firstChannel : Nat
  count : Nat
  row : RowNo
  firstPad : Nat
  direction : Direction
  deriving DecidableEq, Repr

/-- A map window after a cold reset (R96, R107). -/
def MapWindow.cold : MapWindow :=
  { valid := false, link := 0, firstChannel := 0, count := 1, row := 0, firstPad := 0, direction := .ascending }

/-- Pad mode (R119). -/
inductive PadMode where
  | active
  | raw
  | masked
  deriving DecidableEq, Repr

/-- An entry of the pad parameter table (R178, R197). -/
structure Pad where
  pedestal : Nat
  gain : Nat
  threshold : Nat
  mode : PadMode
  deriving DecidableEq, Repr

/-- A pad after a cold reset (R190); what an unlisted pad of the sparse table reads as. -/
def Pad.cold : Pad := ⟨0, 256, 0, .active⟩

/-- An accumulator entry (R146). -/
structure AccEntry where
  sum : Nat
  count : Nat
  deriving DecidableEq, Repr

/-- A cleared accumulator entry; what an unlisted entry of the sparse table reads as. -/
def AccEntry.cold : AccEntry := ⟨0, 0⟩

/-- State of the pedestal accumulator (R147). -/
inductive AccState where
  | idle
  | accumulating
  | held
  deriving DecidableEq, Repr

/-! ### The emitter and the uplink port -/

/-- What the outbound lane is sending (R158). -/
inductive FrameKind where
  | none
  | event
  | reply
  deriving DecidableEq, Repr

/-- The next word of the event frame to send (R158, R200). -/
inductive Position where
  | header (word : Nat)
  /-- A word of the section of a link: its header words, then its pulse words. -/
  | sect (link : LinkNo) (word : Nat)
  | trailer (word : Nat)
  /-- The CRC word is next. -/
  | crcNext
  /-- Every data word has been sent, and END is next. -/
  | endNext
  deriving DecidableEq, Repr

/-- The emitter (R158). -/
structure Emitter where
  frame : FrameKind
  /-- Words stopped by the farm's HOLD, for an event frame only. -/
  held : Bool
  position : Position
  /-- The header words built at the start of the event frame (R160). -/
  header : List Word
  /-- The running CRC of the data words sent (R193). -/
  crc : Word
  deriving DecidableEq, Repr

/-- The idle emitter; its position, header and CRC: DESIGN CHOICE, log entry 16. -/
def Emitter.idle : Emitter := ⟨.none, false, .header 0, [], crcStart⟩

/-- Result of a request (R167, R199). -/
inductive Result where
  | done
  | clamped
  | locked
  | badState
  | badSpace
  | badIndex
  | badLength
  | badSetup
  | readOnly
  deriving DecidableEq, Repr

/-- A reply (R167, R199): the CRC word is computed as it is sent. -/
structure Reply where
  number : BitVec 8
  result : Result
  echo1 : Word
  echo2 : Word
  echo3 : Word
  data : List Word
  deriving DecidableEq, Repr

/-! ### Run control -/

/-- Run state (R181). -/
inductive RunState where
  | setup
  | ready
  | running
  | draining
  deriving DecidableEq, Repr

/-- The whole machine. -/
structure State where
  /-- Run control: run state (R181). -/
  runState : RunState
  /-- Run control: setup lock (R106). -/
  locked : Bool
  /-- Run control: whether it is executing a request (R174). -/
  executing : Bool
  /-- Run control: error cause set, one bit per cause (R187, R194). -/
  errors : BitVec 15
  /-- Run control: the 575 counters, by entry of the COUNTERS space (R180). -/
  counters : Memory Nat
  /-- Run control: general settings (R190). -/
  general : General
  /-- Run control: class table (R190). -/
  classes : Bank ClassEntry 8
  /-- Run control: link time offsets, −64 to +63 bins (R94, R190). -/
  offsets : Bank Int 24
  /-- The 24 front link receivers (R86, R95). -/
  front : Bank FrontLink 24
  /-- The timing link receiver (R57). -/
  timing : Receiver
  /-- The uplink receiver (R165). -/
  uplink : Receiver
  /-- Trigger intake: newest admitted tag, none while undefined (R67). -/
  newestTag : Option Tag
  /-- Trigger intake: pending skipped count (R68). -/
  pendingSkipped : Nat
  /-- Trigger intake: timing flow state (R70). -/
  timingFlow : Flow
  /-- Trigger intake: what the timing link's return lane sends at its next word boundary (R71). -/
  timingDue : Due
  /-- Event table: the 64 slot records (R3). -/
  slots : Bank Slot 64
  /-- Event table: put index (R1). -/
  put : SlotNo
  /-- Event table: get index (R1). -/
  get : SlotNo
  /-- Event table: fill count (R1). -/
  fill : Nat
  /-- Deadline unit: one record per slot (R30). -/
  deadlines : Bank Deadline 64
  /-- Orphan list, oldest first (R45). -/
  orphans : List Orphan
  /-- Adoption queue, head first (R50). -/
  adoption : List Adopted
  /-- Conditioning unit: the job in progress (R113). -/
  job : Option Job
  /-- Conditioning arbiter: rotation position (R109). -/
  rotation : Requester
  /-- Pad map: the 64 map windows (R96). -/
  windows : Bank MapWindow 64
  /-- Pad map: the pad count of each row (R97). -/
  rows : Bank Nat 48
  /-- Pad parameter table, by flat pad number (R97, R197). -/
  pads : Memory Pad
  /-- Fragment store: its words, word w of cell c at address 64 c + w (R134). -/
  store : Memory Word
  /-- Fragment store: the free cell queue, front first (R135). -/
  freeQueue : List Nat
  /-- Fragment store: low mark (R144). -/
  lowMark : Nat
  /-- Pedestal accumulator: state (R147). -/
  accState : AccState
  /-- Pedestal accumulator: sums and counts, by flat pad number (R146). -/
  acc : Memory AccEntry
  /-- Emitter (R158). -/
  emitter : Emitter
  /-- Emitter: farm flow state (R158, R164). -/
  farmFlow : Flow
  /-- Inbound request queue: content words of each received request, head first (R166). -/
  requests : List (List Word)
  /-- Reply queue, head first (R167). -/
  replies : List Reply
  /-- The microsecond timebase (R29). -/
  timebase : Time
  /-- MODEL'S OWN: what the part has sent on its lanes since power-up, oldest first, IDLE left out (DESIGN CHOICE, log entry 4). -/
  out : List (Lane × LaneCode)
  /-- MODEL'S OWN: the commands that wait, first in, first out (DESIGN CHOICE, log entry 21). -/
  pending : List Instr
  deriving DecidableEq, Repr

/-- Why the machine stops with a fault. No command of the manual stops the part and none reads a value the manual
does not give, so there is no reason: every command answers a next state. -/
inductive Fault where
  deriving DecidableEq, Repr

/-- Why the model refuses a command. -/
inductive Refusal where
  /-- Raised by an arm of exec whose command has no meaning yet. Safe: the model stops. No arm raises it. -/
  | notModelled (mnemonic : String)
  deriving DecidableEq, Repr

/-- The free cell queue after either reset: cells 0 to 8,191, ascending (R135, R145). -/
def allCells : List Nat := List.range Config.cellCount

/-- The machine after a cold reset at power-up (R188). The store's words read 0: DESIGN CHOICE, log entry 7. -/
def State.reset : State where
  runState := .setup
  locked := false
  executing := false
  errors := 0
  counters := []
  general := General.cold
  classes := Bank.fill 8 ClassEntry.cold
  offsets := Bank.fill 24 0
  front := Bank.fill 24 FrontLink.cold
  timing := Receiver.quiet .dark
  uplink := Receiver.quiet .dark
  newestTag := none
  pendingSkipped := 0
  timingFlow := .hold
  timingDue := .none
  slots := Bank.fill 64 Slot.empty
  put := 0
  get := 0
  fill := 0
  deadlines := Bank.fill 64 Deadline.empty
  orphans := []
  adoption := []
  job := none
  rotation := 24
  windows := Bank.fill 64 MapWindow.cold
  rows := Bank.fill 48 0
  pads := []
  store := []
  freeQueue := allCells
  lowMark := Config.cellCount
  accState := .idle
  acc := []
  emitter := Emitter.idle
  farmFlow := .go
  requests := []
  replies := []
  timebase := 0
  out := []
  pending := []

end Sys2Proof.Machine
end

