-- ==== Sys2Proof/Machine/Flags.lean ====
section
/-! DEFINITION. The flags and codes of the part as bits of words: enumerated values, fragment and pulse flags,
the error cause set and the numbering of the counters (R180, R187, R194). -/

namespace Sys2Proof.Machine

/-! ### Codes of enumerated values (R194) -/

/-- Code of a link state. -/
def LinkState.code : LinkState → Nat
  | .dark => 0
  | .aligning => 1
  | .live => 2
  | .barred => 3

/-- Code of a flow state. -/
def flowCode : Flow → Nat
  | .go => 0
  | .hold => 1

/-- Code of a loss notice state. -/
def NoticeState.code : NoticeState → Nat
  | .none => 0
  | .pending => 1
  | .delivered => 2

/-- Code of a run state. -/
def RunState.code : RunState → Nat
  | .setup => 0
  | .ready => 1
  | .running => 2
  | .draining => 3

/-- Code of an accumulator state. -/
def AccState.code : AccState → Nat
  | .idle => 0
  | .accumulating => 1
  | .held => 2

/-- Code of a slot state. -/
def SlotState.code : SlotState → Nat
  | .free => 0
  | .opened => 1
  | .extended => 2
  | .closing => 3
  | .closed => 4
  | .emitting => 5

/-- Code of a deadline stage. -/
def Stage.code : Stage → Nat
  | .none => 0
  | .first => 1
  | .second => 2

/-- Code of a closure cause. -/
def Cause.code : Cause → Nat
  | .none => 0
  | .allIn => 1
  | .firstDeadline => 2
  | .secondDeadline => 3
  | .flush => 4

/-- Code of a status. -/
def Status.code : Status → Nat
  | .none => 0
  | .complete => 1
  | .partly => 2
  | .flushed => 3

/-- Code of a class kind. -/
def ClassKind.code : ClassKind → Nat
  | .disabled => 0
  | .physics => 1
  | .calibration => 2
  | .pedestal => 3

/-- The class kind of a two-bit code: every code is a kind (R178). -/
def ClassKind.ofCode (n : Nat) : ClassKind :=
  match n % 4 with
  | 0 => .disabled
  | 1 => .physics
  | 2 => .calibration
  | _ => .pedestal

/-- Code of a pad mode. -/
def PadMode.code : PadMode → Nat
  | .active => 0
  | .raw => 1
  | .masked => 2

/-- The pad mode of a two-bit code: the fourth code is stored as MASKED (R178). -/
def PadMode.ofCode (n : Nat) : PadMode :=
  match n % 4 with
  | 0 => .active
  | 1 => .raw
  | _ => .masked

/-- Code of a direction. -/
def Direction.code : Direction → Nat
  | .ascending => 0
  | .descending => 1

/-- The direction of its bit. -/
def Direction.ofBit (b : Bool) : Direction := if b then .descending else .ascending

/-- Code of the emitter state: idle, sending an event frame, held, sending a reply. -/
def Emitter.code (e : Emitter) : Nat :=
  match e.frame with
  | .none => 0
  | .event => if e.held then 2 else 1
  | .reply => 3

/-- Code of a job outcome. -/
def JobOutcome.code : JobOutcome → Nat
  | .condition _ => 0
  | .park => 1

/-- Code of a result (R199). -/
def Result.code : Result → Nat
  | .done => 0
  | .clamped => 1
  | .locked => 2
  | .badState => 3
  | .badSpace => 4
  | .badIndex => 5
  | .badLength => 6
  | .badSetup => 7
  | .readOnly => 8

/-! ### Flag sets -/

/-- The fragment flags word (R194). -/
def FragFlags.toWord (f : FragFlags) : Word :=
  Sys2Proof.Machine.toWord (flagAt f.feOverflow 0 + flagAt f.fePartial 1 + flagAt f.malformed 2 + flagAt f.truncated 3
    + flagAt f.storeFull 4 + flagAt f.unmapped 5 + flagAt f.clipped 6 + flagAt f.adopted 7 + flagAt f.extra 8)

/-- The flags a job starts with: the two the card set in the front-end flags word, and ADOPTED for an adopted copy
(R51, R116). -/
def FragFlags.ofHeader (flagsWord : Word) (adopted : Bool) : FragFlags :=
  { FragFlags.clear with
    feOverflow := flagsWord.getLsbD 0, fePartial := flagsWord.getLsbD 1, adopted := adopted }

/-- An error cause (R187). -/
inductive ErrorCause where
  | frontCrc
  | frontOverflow
  | frontStall
  | frontOversize
  | frontMalformed
  | linkLost
  | timingLost
  | uplinkLost
  | triggerDuplicate
  | triggerRefused
  | fragmentLate
  | fragmentStray
  | fragmentDuplicate
  | storeExhausted
  | requestDropped
  deriving DecidableEq, Repr

/-- The bit of a cause in the error cause set (R194). -/
def ErrorCause.bit : ErrorCause → Nat
  | .frontCrc => 0
  | .frontOverflow => 1
  | .frontStall => 2
  | .frontOversize => 3
  | .frontMalformed => 4
  | .linkLost => 5
  | .timingLost => 6
  | .uplinkLost => 7
  | .triggerDuplicate => 8
  | .triggerRefused => 9
  | .fragmentLate => 10
  | .fragmentStray => 11
  | .fragmentDuplicate => 12
  | .storeExhausted => 13
  | .requestDropped => 14

/-- The set with a cause added; adding a cause that is present changes nothing (R187). -/
def withCause (errors : BitVec 15) (e : ErrorCause) : BitVec 15 := errors ||| (1#15 <<< e.bit)

/-! ### Counters (R180) -/

/-- The per-link counters. -/
inductive LinkCounter where
  | framesCommitted
  | crcErrors
  | short
  | foreign
  | oversize
  | overflow
  | stall
  | cutEnded
  | idleDiscard
  | discardedByBar
  | unframedCodes
  | codeErrors
  | lockLosses
  | holdSent
  | fragmentsConditioned
  | malformed
  | truncated
  | unmapped
  | parked
  | stray
  | late
  | duplicate
  deriving DecidableEq, Repr

/-- The number k of a per-link counter. -/
def LinkCounter.number : LinkCounter → Nat
  | .framesCommitted => 0
  | .crcErrors => 1
  | .short => 2
  | .foreign => 3
  | .oversize => 4
  | .overflow => 5
  | .stall => 6
  | .cutEnded => 7
  | .idleDiscard => 8
  | .discardedByBar => 9
  | .unframedCodes => 10
  | .codeErrors => 11
  | .lockLosses => 12
  | .holdSent => 13
  | .fragmentsConditioned => 14
  | .malformed => 15
  | .truncated => 16
  | .unmapped => 17
  | .parked => 18
  | .stray => 19
  | .late => 20
  | .duplicate => 21

/-- The part-wide counters. -/
inductive PartCounter where
  | refusedDisabled
  | refusedDuplicate
  | triggerOutsideRun
  | timingFrameDiscarded
  | timingLinkLosses
  | timingHoldSent
  | extensions
  | firstDeadlineClosures
  | secondDeadlineClosures
  | flushClosures
  | orphansAdopted
  | orphansExpired
  | parkRefusedListFull
  | parkRefusedStoreFull
  | storeFullTruncations
  | pedestalSkip
  | eventFramesSent
  | sentComplete
  | sentPartial
  | sentFlushed
  | emissionAborted
  | eventFramesCut
  | replyFramesSent
  | repliesDropped
  | farmHoldReceived
  | uplinkLosses
  | uplinkCodeErrors
  | uplinkUnframedCodes
  | requestCrcErrors
  | requestFramesDiscarded
  | requestQueueOverflow
  deriving DecidableEq, Repr

/-- The entry of a part-wide counter in the COUNTERS space. -/
def PartCounter.entry : PartCounter → Nat
  | .refusedDisabled => 544
  | .refusedDuplicate => 545
  | .triggerOutsideRun => 546
  | .timingFrameDiscarded => 547
  | .timingLinkLosses => 548
  | .timingHoldSent => 549
  | .extensions => 550
  | .firstDeadlineClosures => 551
  | .secondDeadlineClosures => 552
  | .flushClosures => 553
  | .orphansAdopted => 554
  | .orphansExpired => 555
  | .parkRefusedListFull => 556
  | .parkRefusedStoreFull => 557
  | .storeFullTruncations => 558
  | .pedestalSkip => 559
  | .eventFramesSent => 560
  | .sentComplete => 561
  | .sentPartial => 562
  | .sentFlushed => 563
  | .emissionAborted => 564
  | .eventFramesCut => 565
  | .replyFramesSent => 566
  | .repliesDropped => 567
  | .farmHoldReceived => 568
  | .uplinkLosses => 569
  | .uplinkCodeErrors => 570
  | .uplinkUnframedCodes => 571
  | .requestCrcErrors => 572
  | .requestFramesDiscarded => 573
  | .requestQueueOverflow => 574

/-- A counter of the COUNTERS space. -/
inductive Counter where
  | link (k : LinkCounter) (n : LinkNo)
  | admitted (c : ClassNo)
  | refusedLevel (c : ClassNo)
  | part (p : PartCounter)
  deriving DecidableEq, Repr

/-- The entry of a counter in the COUNTERS space. -/
def Counter.entry : Counter → Nat
  | .link k n => 24 * k.number + n.val
  | .admitted c => 528 + c.val
  | .refusedLevel c => 536 + c.val
  | .part p => p.entry

end Sys2Proof.Machine
end

