-- ==== Sys2Proof/Machine/Ops.lean ====
section
/-! DEFINITION. The named operations the meanings share: counters and causes, what the lanes carry, the flow
decisions, the store, and the event table's lookup, closure, drops and loss notice. -/

namespace Sys2Proof.Machine

/-! ### Named updates of the state -/

/-- One slot record replaced. -/
def State.setSlot (s : State) (i : SlotNo) (x : Slot) : State := { s with slots := s.slots.set i x }

/-- One deadline record replaced. -/
def State.setDeadline (s : State) (i : SlotNo) (d : Deadline) : State :=
  { s with deadlines := s.deadlines.set i d }

/-- One front link replaced. -/
def State.setFront (s : State) (n : LinkNo) (f : FrontLink) : State := { s with front := s.front.set n f }

/-- The receiver of a lane. -/
def State.rx (s : State) : Lane → Receiver
  | .front n => (s.front.get n).rx
  | .timing => s.timing
  | .uplink => s.uplink

/-- The receiver of a lane replaced. -/
def State.setRx (s : State) (l : Lane) (r : Receiver) : State :=
  match l with
  | .front n => s.setFront n { s.front.get n with rx := r }
  | .timing => { s with timing := r }
  | .uplink => { s with uplink := r }

/-! ### Counters, causes and lanes -/

/-- A counter's value (R180). -/
def State.counter (s : State) (c : Counter) : Nat := Memory.read 0 s.counters c.entry

/-- A counter raised by a number, stopping at its limit (R180). -/
def State.bumpBy (s : State) (c : Counter) (n : Nat) : State :=
  { s with counters := Memory.write 0 s.counters c.entry (min Config.counterMax (s.counter c + n)) }

/-- A counter raised by one (R180). -/
def State.bump (s : State) (c : Counter) : State := s.bumpBy c 1

/-- A cause added to the error cause set (R187). -/
def State.addError (s : State) (e : ErrorCause) : State := { s with errors := withCause s.errors e }

/-- A code sent on a lane (R74). -/
def State.emit (s : State) (l : Lane) (c : LaneCode) : State := { s with out := s.out ++ [(l, c)] }

/-! ### Trigger intake's flow decision -/

/-- The free count: the length of the free cell queue (R135). -/
def State.freeCount (s : State) : Nat := s.freeQueue.length

/-- The timing flow decision: the first row of R70 that applies. -/
def timingDecision (run : RunState) (g : General) (fill free : Nat) (now : Flow) : Flow :=
  if run ≠ .running then .hold
  else if fill ≥ g.eventHold ∨ free < g.cellHold then .hold
  else if fill ≤ g.eventRelease ∧ free ≥ g.cellResume then .go
  else now

/-- Trigger intake re-evaluates its flow state (R70). A change is due on the return lane, at the next word boundary
(R71). -/
def State.evalTiming (s : State) : State :=
  let new := timingDecision s.runState s.general s.fill s.freeCount s.timingFlow
  if new = s.timingFlow then s else { s with timingFlow := new, timingDue := .changed }

/-! ### The store -/

/-- The cells a chain of `w` words holds (R136). -/
def cellsFor (w : Nat) : Nat := (w + (Config.cellWords - 1)) / Config.cellWords

/-- The store address of word `j` of a chain (R136). -/
def chainAddress (cells : List Nat) (j : Nat) : Nat :=
  cells.getD (j / Config.cellWords) 0 * Config.cellWords + j % Config.cellWords

/-- The first `w` words of a chain (R137). -/
def State.readChain (s : State) (cells : List Nat) (w : Nat) : List Word :=
  (List.range w).map (fun j => Memory.read 0 s.store (chainAddress cells j))

/-- Words written to a chain from word `start` upward (R136). -/
def State.writeChain (s : State) (cells : List Nat) (start : Nat) (ws : List Word) : State :=
  { s with
    store := Memory.writeAll 0 s.store (ws.zipIdx.map (fun p => (chainAddress cells (start + p.2), p.1))) }

/-- `n` cells leave the front of the free cell queue; the low mark follows, and trigger intake sees one change
(R135, R138, R143, R144). -/
def State.takeCells (s : State) (n : Nat) : State :=
  { s with freeQueue := s.freeQueue.drop n, lowMark := min s.lowMark (s.freeCount - n) }.evalTiming

/-- Cells join the back of the free cell queue at one event, and trigger intake sees one change (R135, R140, R143). -/
def State.returnCells (s : State) (cells : List Nat) : State :=
  if cells = [] then s else { s with freeQueue := s.freeQueue ++ cells }.evalTiming

/-! ### The front receivers' FIFO and flow -/

/-- FIFO occupancy: waiting frames, the frame held by a job and the frame in progress (R86). -/
def FrontLink.occupancy (f : FrontLink) : Nat :=
  (f.waiting.map List.length).sum + (f.held.getD []).length + f.rx.words.length

/-- A link is urgent at an occupancy of 6,144 words or more (R110). -/
def FrontLink.urgent (f : FrontLink) : Bool := decide (f.occupancy ≥ Config.fifoHoldLevel)

/-- A link requests the arbiter while it has a waiting frame and no frame held by a job (R86). -/
def FrontLink.requests (f : FrontLink) : Bool := !f.waiting.isEmpty && f.held.isNone

/-- The flow decision toward a card (R88). -/
def frontDecision (occupancy : Nat) (now : Flow) : Flow :=
  if occupancy ≥ Config.fifoHoldLevel then .hold
  else if occupancy ≤ Config.fifoGoLevel then .go
  else now

/-- The reading at which a stall timer started now expires (R85). -/
def State.stallExpiry (s : State) : Time := s.timebase + BitVec.ofNat 32 s.general.stallTimeout

/-- A receiver's stall timer after a change of flow state: stopped by HOLD, restarted by GO, and only for a frame in
RECEIVING (R85). -/
def State.stallAfterFlow (s : State) (r : Receiver) (f : Flow) : Option Time :=
  if f = .go ∧ r.frame = .receiving then some s.stallExpiry else none

/-- A front receiver re-evaluates its flow state after a change of occupancy (R88). A change stops or restarts the stall
timer (R85) and is due on the return lane, at the next word boundary (R89). -/
def State.evalFront (s : State) (n : LinkNo) : State :=
  let f := s.front.get n
  let new := frontDecision f.occupancy f.flow
  if new = f.flow then s
  else s.setFront n { f with flow := new, due := .changed, rx := { f.rx with stall := s.stallAfterFlow f.rx new } }

/-- The frame held by a job leaves the FIFO (R87). -/
def State.dropHeld (s : State) (n : LinkNo) : State :=
  (s.setFront n { s.front.get n with held := none }).evalFront n

/-! ### Word boundaries of the return lanes -/

/-- The symbol of a flow state sent on its return lane; one that tells of a change to HOLD raises the lane's counter (R71,
R89). -/
def State.sendFlow (s : State) (l : Lane) (due : Due) (f : Flow) (holds : Counter) : State :=
  if due = .changed ∧ f = .hold then (s.emit l (.flow f)).bump holds else s.emit l (.flow f)

/-- A word boundary of a return lane: the symbol of the flow state as it stands is sent if one is due, one symbol however often the
state changed since the last boundary (R71, R89, R93). Where the boundaries fall: DESIGN CHOICE, log entry 4. A change to HOLD that was
due at Bar link and is sent while the link is BARRED is counted by R89, although R76 has no counter rise there: DESIGN CHOICE, log
entry 24. -/
def State.wordBoundary (s : State) : Lane → State
  | .front n =>
    let f := s.front.get n
    if f.due = .none then s
    else (s.setFront n { f with due := .none }).sendFlow (.front n) f.due f.flow (.link .holdSent n)
  | .timing =>
    if s.timingDue = .none then s
    else { s with timingDue := .none }.sendFlow .timing s.timingDue s.timingFlow (.part .timingHoldSent)
  | .uplink => s

/-- The return lanes: those of the front links and of the timing link. -/
def returnLanes : List Lane := (indices 24).map .front ++ [.timing]

/-! ### The event table -/

/-- A slot that is OPEN or EXTENDED. -/
def Slot.isOpen (x : Slot) : Bool := x.state == .opened || x.state == .extended

/-- Some contribution is QUEUED or CONDITIONING, or some extra is in conditioning (R6, R18). -/
def Slot.busy (x : Slot) : Bool :=
  x.contribs.any (fun c => c == some .queued || c == some .conditioning)
    || x.extras.any (fun e => e == some .conditioning)

/-- The number of AWAITED contributions (R32). -/
def Slot.awaited (x : Slot) : Nat := x.contribs.count (fun c => c == some .awaited)

/-- The ALL_IN condition (R20). -/
def Slot.allIn (x : Slot) : Bool := x.awaited == 0 && !x.busy

/-- AWAITED becomes MISSING at closure; every other contribution keeps its state (R18). -/
def closeContribution (c : Option Contribution) : Option Contribution :=
  if c = some .awaited then some .missing else c

/-- The status a closure sets (R19). -/
def closureStatus (cause : Cause) (contribs : Bank (Option Contribution) 24) : Status :=
  if cause = .flush then .flushed
  else if contribs.any (fun c => c.isSome && c != some .arrived) then .partly
  else .complete

/-- A slot after its closure (R18, R19). -/
def Slot.close (x : Slot) (cause : Cause) : Slot :=
  let contribs := x.contribs.map closeContribution
  { x with
    contribs := contribs, cause := cause, status := closureStatus cause contribs,
    state := if x.busy then .closing else .closed }

/-- The counter a closure of a cause raises, if it raises one (R41). -/
def Cause.counter : Cause → Option Counter
  | .none => Option.none
  | .allIn => Option.none
  | .firstDeadline => some (.part .firstDeadlineClosures)
  | .secondDeadline => some (.part .secondDeadlineClosures)
  | .flush => some (.part .flushClosures)

/-- A counter raised, if there is one. -/
def State.bumpOption (s : State) : Option Counter → State
  | none => s
  | some c => s.bump c

/-- A slot closes: the steps of R18, the cancellation of its deadline (R35) and the counter of its cause (R41). -/
def State.closeSlot (s : State) (i : SlotNo) (cause : Cause) : State :=
  ((s.setSlot i ((s.slots.get i).close cause)).setDeadline i
    { s.deadlines.get i with stage := .none }).bumpOption cause.counter

/-- The ALL_IN test of one slot (R20): an OPEN or EXTENDED slot that meets the condition closes. -/
def State.allInCheck (s : State) (i : SlotNo) : State :=
  if (s.slots.get i).isOpen ∧ (s.slots.get i).allIn then s.closeSlot i .allIn else s

/-- The check after an attachment (R16). -/
def State.attachCheck (s : State) (i : SlotNo) : State :=
  let x := s.slots.get i
  if x.state = .closing then (if x.busy then s else s.setSlot i { x with state := .closed })
  else s.allInCheck i

/-- The non-FREE slot that carries a tag (R7: at most one does). -/
def State.slotOfTag (s : State) (tag : Tag) : Option SlotNo :=
  (indices 64).find? (fun i => (s.slots.get i).state != .free && (s.slots.get i).tag == tag)

/-- A late drop at a slot (R12). -/
def State.lateAtSlot (s : State) (i : SlotNo) (n : LinkNo) : State :=
  let x := s.slots.get i
  ((s.setSlot i { x with late := min Config.dropMax (x.late + 1) }).bump (.link .late n)).addError .fragmentLate

/-- A late drop against the link alone (R44, R50). -/
def State.lateAtLink (s : State) (n : LinkNo) : State := (s.bump (.link .late n)).addError .fragmentLate

/-- A duplicate drop at a slot (R13, R49). -/
def State.duplicateAtSlot (s : State) (i : SlotNo) (n : LinkNo) : State :=
  let x := s.slots.get i
  ((s.setSlot i { x with duplicate := min Config.dropMax (x.duplicate + 1) }).bump (.link .duplicate n)).addError
    .fragmentDuplicate

/-- A stray drop (R44). -/
def State.strayAtLink (s : State) (n : LinkNo) : State := (s.bump (.link .stray n)).addError .fragmentStray

/-- What a loss notice does at one slot: AWAITED becomes LOST in an OPEN or EXTENDED slot, and the slot so changed is
tested for ALL_IN (R23). -/
def State.noticeAtSlot (s : State) (n : LinkNo) (i : SlotNo) : State :=
  let x := s.slots.get i
  if x.isOpen ∧ x.contribs.get n = some .awaited then
    (s.setSlot i { x with contribs := x.contribs.set n (some .lost) }).allInCheck i
  else s

/-- A loss notice at the event table (R23). -/
def State.lossNotice (s : State) (n : LinkNo) : State :=
  (indices 64).foldl (fun (t : State) (i : SlotNo) => t.noticeAtSlot n i) s

/-- The cells a slot still owns, the chains in ascending link order (R135). -/
def Slot.cells (x : Slot) : List Nat :=
  (indices 24).flatMap (fun n => ((x.records.get n).map FragRecord.cells).getD [])

/-- The slot at get becomes FREE: its record and its deadline are emptied, get advances and fill falls (R2, R25). The
cells it still owns, none at an END (R163) and the unsent ones at an abort (R141), are returned first. -/
def State.freeSlotAtGet (s : State) : State :=
  let t := s.returnCells (s.slots.get s.get).cells
  { (t.setSlot t.get Slot.empty).setDeadline t.get Deadline.empty with
    get := t.get + 1, fill := t.fill - 1 }.evalTiming

/-! ### The orphan list -/

/-- The entries that meet a test leave the orphan list as stray; their cells are returned in list order at the one
event (R52, R53, R135). -/
def State.dropOrphans (s : State) (p : Orphan → Bool) : State :=
  let gone := s.orphans.filter p
  (gone.foldl (fun (s : State) (o : Orphan) => s.strayAtLink o.link) { s with orphans := s.orphans.filter (fun o => !p o) }).returnCells
    (gone.flatMap Orphan.cells)

/-- A raw copy meets its slot while the slot is OPEN or EXTENDED: it joins the adoption queue, or is a duplicate and
its cells are returned (R49). -/
def State.adoptInto (s : State) (i : SlotNo) (o : Orphan) : State :=
  let x := s.slots.get i
  let entry (expected : Bool) : Adopted :=
    { link := o.link, tag := o.tag, slot := i, expected := expected, cells := o.cells, wordCount := o.wordCount }
  match x.contribs.get o.link with
  | some .awaited | some .lost | some .absent =>
    { (s.setSlot i { x with contribs := x.contribs.set o.link (some .queued) }) with
      adoption := s.adoption ++ [entry true] }.bump (.part .orphansAdopted)
  | some .queued | some .conditioning | some .arrived | some .missing =>
    (s.duplicateAtSlot i o.link).returnCells o.cells
  | none => { s with adoption := s.adoption ++ [entry false] }.bump (.part .orphansAdopted)

/-- The entries that carry an admitted tag leave the list, oldest first, for the new slot (R49). -/
def State.adoptAll (s : State) (i : SlotNo) (tag : Tag) : State :=
  (s.orphans.filter (fun o => o.tag == tag)).foldl (fun (s : State) (o : Orphan) => s.adoptInto i o)
    { s with orphans := s.orphans.filter (fun o => !(o.tag == tag)) }

end Sys2Proof.Machine
end

