-- ==== Sys2Proof/Machine/Orphans.lean ====
section
/-! DEFINITION. The orphan list: the end of a park job, the hand-over of its copy, and expiry (R45 to R53). -/

namespace Sys2Proof.Machine

/-- The source words of a job: the held frame without its CRC word, or the raw copy in its cells (R116). -/
def State.sourceWords (s : State) (j : Job) : List Word :=
  match j.source with
  | .fifo => ((s.front.get j.link).held.getD []).dropLast
  | .copy cells w => s.readChain cells w

/-- The raw copy of a park job, as an orphan entry whose park time is this reading (R45, R47). -/
def State.parkedCopy (s : State) (j : Job) : Orphan :=
  { link := j.link, tag := j.tag, parkTime := s.timebase, cells := j.cells, wordCount := j.wordCount }

/-- The hand-over of a copy to a slot that carries its tag (R47, R49): late at a slot that has closed, else as adoption
hands over an entry. -/
def State.handOver (s : State) (i : SlotNo) (o : Orphan) : State :=
  let t := s.bump (.link .parked o.link)
  if (t.slots.get i).isOpen then t.adoptInto i o
  else (t.lateAtSlot i o.link).returnCells o.cells

/-- The outcome of a completed copy: the first row of R47 that applies. -/
def State.placeCopy (s : State) (o : Orphan) : State :=
  match s.slotOfTag o.tag with
  | some i => s.handOver i o
  | none =>
    if s.runState = .draining then (s.strayAtLink o.link).returnCells o.cells
    else { s with orphans := s.orphans ++ [o] }.bump (.link .parked o.link)

/-- The end of a park job: the copy is complete (its words are written at this event: DESIGN CHOICE, log entry 14), the frame leaves the FIFO, and the copy finds its place (R47, R87). -/
def State.endPark (s : State) (j : Job) : State :=
  let copied := s.writeChain j.cells 0 (s.sourceWords j)
  ({ copied with job := none }.dropHeld j.link).placeCopy (s.parkedCopy j)

/-- The end of the park job in progress, if there is one. -/
def State.parkJobEnd (s : State) : State :=
  match s.job with
  | none => s
  | some j => match j.outcome with
    | .park => s.endPark j
    | .condition _ => s

/-- An entry is due: the timebase has reached its park time plus the park time setting (R48). -/
def State.orphanDue (s : State) (o : Orphan) : Bool :=
  o.parkTime + BitVec.ofNat 32 s.general.parkTime == s.timebase

/-- The list without its oldest due entry. -/
def State.withoutOldestDue (s : State) : List Orphan := s.orphans.eraseP s.orphanDue

/-- The oldest due entry expires, if one is due (R48; DESIGN CHOICE, log entries 2 and 15). -/
def State.orphanExpiry (s : State) : State :=
  match s.orphans.find? s.orphanDue with
  | none => s
  | some o =>
    (({ s with orphans := s.withoutOldestDue }.strayAtLink o.link).bump (.part .orphansExpired)).returnCells o.cells

/-- PARK_JOB_END. -/
def execParkJobEnd (s : State) : Host.Outcome State Fault Refusal := .next s.parkJobEnd

/-- ORPHAN_EXPIRY. -/
def execOrphanExpiry (s : State) : Host.Outcome State Fault Refusal := .next s.orphanExpiry

end Sys2Proof.Machine
end

