-- ==== Sys2Proof/Machine/Mapping.lean ====
section
/-! DEFINITION. The pad map: row starts, lookup and translation, and the checks Setup done makes (R97 to R105, R182). -/

namespace Sys2Proof.Machine

/-- The row start of a row: the sum of the pad counts of the rows below it (R97). -/
def rowStart (rows : Bank Nat 48) (r : RowNo) : Nat := (rows.list.take r.val).sum

/-- A window covers a channel of a link (R98). -/
def MapWindow.covers (w : MapWindow) (link : LinkNo) (channel : Nat) : Bool :=
  w.valid && w.link == link && decide (w.firstChannel ≤ channel) && decide (channel < w.firstChannel + w.count)

/-- The matching window: the first that covers the link and channel (R98). -/
def matchingWindow (windows : Bank MapWindow 64) (link : LinkNo) (channel : Nat) : Option SlotNo :=
  (indices 64).find? (fun i => (windows.get i).covers link channel)

/-- The pad within the row that a window sends a channel to (R99). -/
def MapWindow.padOf (w : MapWindow) (channel : Nat) : Nat :=
  match w.direction with
  | .ascending => w.firstPad + (channel - w.firstChannel)
  | .descending => w.firstPad - (channel - w.firstChannel)

/-- A burst's place on the cathode plane (R99). -/
structure Place where
  row : Nat
  pad : Nat
  flat : Nat
  deriving DecidableEq, Repr

/-- The pad map's answer for a link and channel; none when the burst is unmapped (R98 to R100). -/
def lookupPad (windows : Bank MapWindow 64) (rows : Bank Nat 48) (link : LinkNo) (channel : Nat) : Option Place :=
  (matchingWindow windows link channel).map (fun i =>
    let w := windows.get i
    ⟨w.row.val, w.padOf channel, rowStart rows w.row + w.padOf channel⟩)

/-! ### The checks of Setup done -/

/-- The lowest row at which the running sum of the pad counts first exceeds the limit (R103). -/
def overflowRow (limit : Nat) : Nat → Nat → List Nat → Option Nat
  | _, _, [] => none
  | row, sum, n :: rest => if sum + n > limit then some row else overflowRow limit (row + 1) (sum + n) rest

/-- A valid window keeps within the channel range and within its row (R104). -/
def MapWindow.fits (w : MapWindow) (rowPads : Nat) : Bool :=
  decide (w.firstChannel + w.count ≤ 128) && decide (rowPads > 0)
    && match w.direction with
      | .ascending => decide (w.firstPad + w.count ≤ rowPads)
      | .descending => decide (w.firstPad + 1 ≤ rowPads) && decide (w.count ≤ w.firstPad + 1)

/-- The first valid window that does not fit (R104). -/
def badWindow (windows : Bank MapWindow 64) (rows : Bank Nat 48) : Option SlotNo :=
  (indices 64).find? (fun i => (windows.get i).valid && !(windows.get i).fits (rows.get (windows.get i).row))

/-- The pads that the effective pairs of one window target (R105). -/
def effectivePads (windows : Bank MapWindow 64) (i : SlotNo) : List (Nat × Nat) :=
  let w := windows.get i
  ((List.range w.count).map (fun k => w.firstChannel + k)).filterMap (fun channel =>
    if matchingWindow windows w.link channel = some i then some (w.row.val, w.padOf channel) else none)

/-- The lowest of the windows listed that holds an effective pair whose pad an earlier one already targets (R105). -/
def sharedPad (windows : Bank MapWindow 64) : List (Nat × Nat) → List SlotNo → Option SlotNo
  | _, [] => none
  | taken, i :: rest =>
    let pads := effectivePads windows i
    if pads.any (fun p => taken.contains p) then some i else sharedPad windows (taken ++ pads) rest

/-- The five checks of R182, in order: the failing space number and entry index of the first that fails. -/
def setupFailure (s : State) : Option (Nat × Nat) :=
  match overflowRow Config.padCount 0 0 s.rows.list with
  | some r => some (4, r)
  | none => match badWindow s.windows s.rows with
    | some w => some (3, w.val)
    | none => match sharedPad s.windows [] (indices 64) with
      | some w => some (3, w.val)
      | none =>
        if s.classes.any (fun c => c.kind != .disabled) then
          ((indices 8).find? (fun c => (s.classes.get c).kind != .disabled && (s.classes.get c).expected == 0)).map
            (fun c => (2, c.val))
        else some (2, 0)

end Sys2Proof.Machine
end

