-- ==== Sys2Proof/Machine/Samples.lean ====
section
/-! DEFINITION. The conditioning arithmetic on one burst: correction, suppression, alignment, clipping and the words
of a pulse (R119 to R127), and the accumulator's addition of a burst (R150, R151). -/

namespace Sys2Proof.Machine

/-- A sample of a burst: its raw value, the value its treatment gives it, and its aligned bin. -/
structure Sample where
  bin : Int
  raw : Nat
  value : Nat
  deriving DecidableEq, Repr

/-- The corrected value of a raw sample for a pedestal in quarter counts and a gain of 256 for unity (R121). -/
def correct (pedestal gain raw : Nat) : Nat :=
  if raw = Config.overflowCode then Config.overflowCode
  else if 4 * raw ≤ pedestal then 0
  else min Config.overflowCode (((4 * raw - pedestal) * gain + 512) / 1024)

/-- The treatment of a burst (R119). -/
inductive Treatment where
  /-- Correct, then suppress. -/
  | suppressed
  /-- Correct; the whole burst is one pulse. -/
  | corrected
  /-- Raw; the whole burst is one pulse, flagged RAW. -/
  | raw
  /-- The burst is dropped. -/
  | dropped
  deriving DecidableEq, Repr

/-- The treatment of a pad mode and a class kind (R119). A slot's class is never DISABLED (R119), so that column is the
model's own (DESIGN CHOICE, log entry 12). -/
def treatmentOf : PadMode → ClassKind → Treatment
  | .masked, _ => .dropped
  | _, .disabled => .dropped
  | .active, .physics => .suppressed
  | .active, .calibration => .corrected
  | .active, .pedestal => .raw
  | .raw, .physics => .raw
  | .raw, .calibration => .raw
  | .raw, .pedestal => .raw

/-- The value a treatment gives a raw sample: corrected treatments correct it, a raw one keeps it (R119, R121). -/
def Treatment.value (t : Treatment) (p : Pad) (raw : Nat) : Nat :=
  match t with
  | .suppressed | .corrected => correct p.pedestal p.gain raw
  | .raw | .dropped => raw

/-- The samples of a burst with their values and aligned bins: start bin + link offset + index (R125). -/
def alignSamples (t : Treatment) (p : Pad) (start : Int) (raws : List Nat) : List Sample :=
  raws.zipIdx.map (fun r => ⟨start + (r.2 : Int), r.1, t.value p r.1⟩)

/-! ### Suppression -/

/-- A sample is over: at or above the threshold, or saturated (R123). -/
def Sample.over (threshold : Nat) (x : Sample) : Bool :=
  decide (x.value ≥ threshold) || decide (x.raw = Config.overflowCode)

/-- The maximal stretches of over samples from index `i` on, as first and last index; `from?` is the start of a stretch
that is still open (R123). -/
def runsOf : Nat → Option Nat → List Bool → List (Nat × Nat)
  | _, none, [] => []
  | i, some a, [] => [(a, i - 1)]
  | i, none, true :: rest => runsOf (i + 1) (some i) rest
  | i, some a, true :: rest => runsOf (i + 1) (some a) rest
  | i, none, false :: rest => runsOf (i + 1) none rest
  | i, some a, false :: rest => (a, i - 1) :: runsOf (i + 1) none rest

/-- The span of a kept run, limited to the burst of `n` samples (R123). -/
def spanOf (pre post n : Nat) (run : Nat × Nat) : Nat × Nat := (run.1 - pre, min (run.2 + post) (n - 1))

/-- Spans merged into pulses, from a current pulse on (R124): a span joins the pulse when it overlaps it or when no more
than the merge gap of samples lie strictly between them. -/
def mergeFrom (gap : Nat) : Nat × Nat → List (Nat × Nat) → List (Nat × Nat)
  | cur, [] => [cur]
  | cur, sp :: rest =>
    if sp.1 ≤ cur.2 + 1 + gap then mergeFrom gap (cur.1, max cur.2 sp.2) rest
    else cur :: mergeFrom gap sp rest

/-- Spans merged into pulses (R124). -/
def mergeSpans (gap : Nat) : List (Nat × Nat) → List (Nat × Nat)
  | [] => []
  | sp :: rest => mergeFrom gap sp rest

/-- The pulses of a burst as first and last index (R123, R124). -/
def pulseSpans (c : ClassEntry) (threshold : Nat) (xs : List Sample) : List (Nat × Nat) :=
  let runs := runsOf 0 none (xs.map (Sample.over threshold))
  let kept := runs.filter (fun r => decide (r.2 - r.1 + 1 ≥ c.minWidth))
  mergeSpans c.mergeGap (kept.map (spanOf c.preSamples c.postSamples xs.length))

/-- The samples from a first to a last index. -/
def slice (xs : List Sample) (sp : Nat × Nat) : List Sample := (xs.drop sp.1).take (sp.2 - sp.1 + 1)

/-- The pulses of a burst before clipping (R119 step 5). -/
def pulsesOf (t : Treatment) (c : ClassEntry) (p : Pad) (xs : List Sample) : List (List Sample) :=
  match t with
  | .suppressed => (pulseSpans c p.threshold xs).map (slice xs)
  | .corrected | .raw => [xs]
  | .dropped => []

/-! ### Clipping and the words of a pulse -/

/-- The samples of a pulse whose aligned bin lies within the drift window (R126). -/
def clipSamples (window : Nat) (xs : List Sample) : List Sample :=
  xs.filter (fun x => decide (0 ≤ x.bin) && decide (x.bin < (window : Int)))

/-- A pulse that survives clipping, as it is written (R127). -/
structure Pulse where
  row : Nat
  pad : Nat
  saturated : Bool
  clipped : Bool
  isRaw : Bool
  start : Nat
  values : List Nat
  deriving DecidableEq, Repr

/-- The pulse of the samples kept, the first of them apart (R122, R126, R127). -/
def pulseFrom (place : Place) (t : Treatment) (lost : Bool) (first : Sample) (rest : List Sample) : Pulse :=
  { row := place.row, pad := place.pad
    saturated := (first :: rest).any (fun x => decide (x.raw = Config.overflowCode))
    clipped := lost, isRaw := decide (t = .raw), start := first.bin.toNat
    values := (first :: rest).map Sample.value }

/-- The pulse words (R127, R200). -/
def Pulse.words (p : Pulse) : List Word :=
  [toWord (atBit p.row 8 + p.pad), toWord (flagAt p.saturated 15 + flagAt p.clipped 14 + flagAt p.isRaw 13 + p.start),
    toWord p.values.length] ++ p.values.map toWord

/-! ### The accumulator -/

/-- One raw sample added to an entry (R150, R151). -/
def AccEntry.add (e : AccEntry) (raw : Nat) : AccEntry :=
  if raw = Config.overflowCode ∨ e.count ≥ Config.accumulatorMax then e else ⟨e.sum + raw, e.count + 1⟩

/-- A burst's raw samples added to a pad's entry, in burst order (R150). -/
def AccEntry.addAll (e : AccEntry) (raws : List Nat) : AccEntry := raws.foldl AccEntry.add e

/-- The pedestal an entry adopts: the mean in quarter counts, a half rounded up, clamped to 4,095 (R153). -/
def AccEntry.pedestal (e : AccEntry) : Nat := min 4095 ((4 * e.sum + e.count / 2) / e.count)

end Sys2Proof.Machine
end

