-- ==== Sys2Proof/Machine/Conditioning.lean ====
section
/-! DEFINITION. The conditioning unit: the arbiter's grant and what the job's lookup decides, the processing of a
burst, and the end of a conditioning job (R9 to R17, R43, R44, R46, R50, R51, R98 to R100, R109 to R133). -/

namespace Sys2Proof.Machine

/-! ### The arbiter -/

/-- Whether a requester requests (R109). -/
def State.requesting (s : State) (r : Requester) : Bool :=
  if h : r.val < 24 then (s.front.get ⟨r.val, h⟩).requests else !s.adoption.isEmpty

/-- Whether a requester is urgent; the adoption queue never is (R110). -/
def State.urgentRequester (s : State) (r : Requester) : Bool :=
  if h : r.val < 24 then (s.front.get ⟨r.val, h⟩).urgent else false

/-- Rotation order: from the requester after the rotation position upward, ending at the position itself (R111). -/
def rotationOrder (position : Requester) : List Requester :=
  (List.range 25).map (fun k => Fin.ofNat 25 (position.val + 1 + k))

/-- The requester a grant goes to (R111). -/
def State.chosen (s : State) : Option Requester :=
  match (rotationOrder s.rotation).find? (fun r => s.urgentRequester r && s.requesting r) with
  | some r => some r
  | none => (rotationOrder s.rotation).find? s.requesting

/-- Whether any front link is urgent (R113). -/
def State.anyUrgent (s : State) : Bool := s.front.any FrontLink.urgent

/-! ### The lookup of a front-link fragment -/

/-- A conditioning job starts (R113): it has read the three header words, and it carries the card's two flags, and
ADOPTED for an adopted copy (R51, R116). -/
def newJob (r : Requester) (n : LinkNo) (src : JobSource) (i : SlotNo) (tag : Tag) (urgent : Bool)
    (flags : FragFlags) : Job :=
  { requester := r, link := n, source := src, outcome := .condition i, tag := tag, urgent := urgent, cells := [],
    pulseCount := 0, wordCount := 0, flags := flags, position := 3, stopped := false, skipCounted := false }

/-- A link's contribution becomes CONDITIONING (R10, R11). -/
def State.takeContribution (s : State) (i : SlotNo) (n : LinkNo) : State :=
  let x := s.slots.get i
  s.setSlot i { x with contribs := x.contribs.set n (some .conditioning) }

/-- A link joins the extras set as in conditioning (R10, R11). -/
def State.takeExtra (s : State) (i : SlotNo) (n : LinkNo) : State :=
  let x := s.slots.get i
  s.setSlot i { x with extras := x.extras.set n (some .conditioning) }

/-- What a lookup finds for a fragment at a slot (R10, R11, R113). -/
inductive Finding where
  | condition
  | extra
  | duplicate
  | late
  deriving DecidableEq, Repr

/-- The finding for a link's fragment whose tag the slot carries (R9, R10). -/
def Slot.find (x : Slot) (n : LinkNo) : Finding :=
  if !x.isOpen then .late
  else match x.contribs.get n with
    | some .awaited | some .lost | some .absent => .condition
    | some .queued | some .conditioning | some .arrived | some .missing => .duplicate
    | none => if (x.extras.get n).isSome then .duplicate else .extra

/-- A front-link fragment at the slot its tag matches (R10, R12, R13). -/
def State.grantAtSlot (s : State) (n : LinkNo) (frame : List Word) (urgent : Bool) (i : SlotNo) : State :=
  let job := newJob (Fin.castSucc n) n .fifo i (frame.getD 1 0) urgent (FragFlags.ofHeader (frame.getD 2 0) false)
  match (s.slots.get i).find n with
  | .condition => { s.takeContribution i n with job := some job }
  | .extra => { s.takeExtra i n with job := some job }
  | .duplicate => (s.duplicateAtSlot i n).dropHeld n
  | .late => (s.lateAtSlot i n).dropHeld n

/-! ### Classification of an unmatched fragment -/

/-- Outcome of the classification (R43). -/
inductive Unmatched where
  | park
  | late
  | stray
  deriving DecidableEq, Repr

/-- The classification of a fragment that no slot matches: the first row of R43 that applies. -/
def classify (run : RunState) (newest : Option Tag) (lookAhead : Nat) (tag : Tag) : Unmatched :=
  if run ≠ .running then .stray
  else match newest with
    | none => .park
    | some t =>
      if (tag - t).toNat = 0 ∨ (tag - t).toNat ≥ 32768 then .late
      else if (tag - t).toNat ≤ lookAhead then .park
      else .stray

/-- A park job starts: it takes all its cells (R46). -/
def State.startPark (s : State) (n : LinkNo) (frame : List Word) (urgent : Bool) : State :=
  let w := frame.length - 1
  let job : Job :=
    { requester := Fin.castSucc n, link := n, source := .fifo, outcome := .park, tag := frame.getD 1 0,
      urgent := urgent, cells := s.freeQueue.take (cellsFor w), pulseCount := 0, wordCount := w,
      flags := FragFlags.clear, position := 0, stopped := false, skipCounted := false }
  { s.takeCells (cellsFor w) with job := some job }

/-- A fragment classified for parking (R46). -/
def State.grantPark (s : State) (n : LinkNo) (frame : List Word) (urgent : Bool) : State :=
  if s.orphans.length ≥ Config.orphanCapacity then
    ((s.strayAtLink n).bump (.part .parkRefusedListFull)).dropHeld n
  else if s.freeCount < cellsFor (frame.length - 1) then
    (((s.strayAtLink n).bump (.part .parkRefusedStoreFull)).addError .storeExhausted).dropHeld n
  else s.startPark n frame urgent

/-- A front-link fragment that no slot matches (R43, R44). -/
def State.grantUnmatched (s : State) (n : LinkNo) (frame : List Word) (urgent : Bool) : State :=
  match classify s.runState s.newestTag s.general.lookAhead (frame.getD 1 0) with
  | .park => s.grantPark n frame urgent
  | .late => (s.lateAtLink n).dropHeld n
  | .stray => (s.strayAtLink n).dropHeld n

/-- The lookup and outcome of a granted front frame (R9, R113). -/
def State.grantFrame (s : State) (n : LinkNo) (frame : List Word) (urgent : Bool) : State :=
  match s.slotOfTag (frame.getD 1 0) with
  | some i => s.grantAtSlot n frame urgent i
  | none => s.grantUnmatched n frame urgent

/-- The loss notice that a grant delivers: PENDING, the link not LIVE, and no waiting frame left (R92). -/
def State.grantNotice (s : State) (n : LinkNo) : State :=
  let f := s.front.get n
  if f.notice = .pending ∧ f.rx.link ≠ .live ∧ f.waiting = [] then
    (s.setFront n { f with notice := .delivered }).lossNotice n
  else s

/-- The grant of a front link: its oldest waiting frame becomes the frame held by the job (R87). The notice that this
grant delivers and its lookup are taken in the order given (R24). -/
def State.grantFront (s : State) (n : LinkNo) (noticeFirst : Bool) : State :=
  match (s.front.get n).waiting with
  | [] => s
  | frame :: rest =>
    let t := s.setFront n { s.front.get n with waiting := rest, held := some frame }
    if noticeFirst then (t.grantNotice n).grantFrame n frame s.anyUrgent
    else (t.grantFrame n frame s.anyUrgent).grantNotice n

/-! ### The adoption queue -/

/-- The finding for an adopted entry at its slot (R11): an expected entry is conditioned, whatever the slot's state; an
extra candidate is resolved like a fragment from outside the expected set. -/
def Slot.findAdopted (x : Slot) (e : Adopted) : Finding :=
  if e.expected then .condition
  else if !x.isOpen then .late
  else if (x.extras.get e.link).isSome then .duplicate
  else .extra

/-- An adopted entry at the slot it was adopted into, which carries its tag (R11). -/
def State.grantEntry (s : State) (e : Adopted) (urgent : Bool) : State :=
  let flags := FragFlags.ofHeader ((s.readChain e.cells e.wordCount).getD 2 0) true
  let job := newJob 24 e.link (.copy e.cells e.wordCount) e.slot e.tag urgent flags
  match (s.slots.get e.slot).findAdopted e with
  | .condition => { s.takeContribution e.slot e.link with job := some job }
  | .extra => { s.takeExtra e.slot e.link with job := some job }
  | .duplicate => (s.duplicateAtSlot e.slot e.link).returnCells e.cells
  | .late => (s.lateAtSlot e.slot e.link).returnCells e.cells

/-- The grant of requester 24: the entry at the head leaves the queue and is resolved against its slot; an entry whose slot
is FREE or carries another tag is late against its link only (R50). -/
def State.grantAdoption (s : State) : State :=
  match s.adoption with
  | [] => s
  | e :: rest =>
    let t := { s with adoption := rest }
    if (t.slots.get e.slot).state ≠ .free ∧ (t.slots.get e.slot).tag = e.tag then t.grantEntry e s.anyUrgent
    else (t.lateAtLink e.link).returnCells e.cells

/-- The grant of a requester: the rotation position becomes its number (R111), and its fragment's job starts. -/
def State.grant (s : State) (r : Requester) (noticeFirst : Bool) : State :=
  let t := { s with rotation := r }
  if h : r.val < 24 then t.grantFront ⟨r.val, h⟩ noticeFirst else t.grantAdoption

/-- The arbiter grants when no job is in progress and a requester requests (R109); a grant happens when it is commanded
(DESIGN CHOICE, log entry 17). -/
def State.arbiterGrant (s : State) (noticeFirst : Bool) : State :=
  match s.job with
  | some _ => s
  | none => match s.chosen with
    | none => s
    | some r => s.grant r noticeFirst

/-! ### Processing a burst -/

/-- A burst as read from the source (R117). -/
structure Burst where
  channel : Nat
  start : Nat
  raws : List Nat
  deriving DecidableEq, Repr

/-- The burst at the front of the words that remain; none when it is malformed (R117, R118). -/
def readBurst : List Word → Option Burst
  | channel :: start :: count :: body =>
    let n := field count 0 9
    if channel.toNat > 127 ∨ n = 0 ∨ n > body.length then none
    else some ⟨channel.toNat, field start 0 10, (body.take n).map (fun w => field w 0 10)⟩
  | _ => none

/-- A refused pulse stops the job and flags it TRUNCATED (R128, R130). -/
def Job.truncate (j : Job) (storeFull : Bool) : Job :=
  { j with stopped := true, flags := { j.flags with truncated := true, storeFull := j.flags.storeFull || storeFull } }

/-- The job after a pulse of `words` words is written into cells it takes (R127, R128). -/
def Job.wrote (j : Job) (cells : List Nat) (words : Nat) : Job :=
  { j with cells := j.cells ++ cells, pulseCount := j.pulseCount + 1, wordCount := j.wordCount + words }

/-- The cells a pulse of `words` words needs (R128). -/
def Job.need (j : Job) (words : Nat) : Nat := cellsFor (j.wordCount + words) - cellsFor j.wordCount

/-- A pulse written whole into the job's chain, after its cells are taken from the front of the queue (R127, R128). -/
def State.writePulse (s : State) (j : Job) (ws : List Word) : State × Job :=
  let cells := s.freeQueue.take (j.need ws.length)
  let t := if j.need ws.length = 0 then s else s.takeCells (j.need ws.length)
  (t.writeChain (j.cells ++ cells) j.wordCount ws, j.wrote cells ws.length)

/-- A pulse meets the cell limit and the free count, in that order (R128, R130). -/
def State.offerPulse (s : State) (j : Job) (limit : Nat) (ws : List Word) : State × Job :=
  if j.need ws.length > 0 ∧ j.cells.length + j.need ws.length > limit then
    (s.bump (.link .truncated j.link), j.truncate false)
  else if s.freeCount < j.need ws.length then
    (((s.bump (.link .truncated j.link)).bump (.part .storeFullTruncations)).addError .storeExhausted,
      j.truncate true)
  else s.writePulse j ws

/-- A fragment that lost samples to clipping is flagged CLIPPED (R126), also where the pulse is then refused (DEDUCED, log
entry 11). -/
def Job.clippedIf (j : Job) (lost : Bool) : Job :=
  { j with flags := { j.flags with clipped := j.flags.clipped || lost } }

/-- The pulses of a burst clipped and written one after another; a refused one leaves the rest unprocessed (R126 to
R130). -/
def State.writePulses (s : State) (j : Job) (c : ClassEntry) (place : Place) (t : Treatment) :
    List (List Sample) → State × Job
  | [] => (s, j)
  | p :: rest =>
    let lost := decide ((clipSamples c.driftWindow p).length < p.length)
    match clipSamples c.driftWindow p with
    | [] => s.writePulses (j.clippedIf lost) c place t rest
    | first :: more =>
      let r := s.offerPulse (j.clippedIf lost) c.cellLimit (pulseFrom place t lost first more).words
      if r.2.stopped then r else r.1.writePulses r.2 c place t rest

/-- A PEDESTAL-kind burst meets the accumulator: delivered, or withheld when a front link was urgent at the grant (R120,
R150). -/
def State.deliver (s : State) (j : Job) (flat : Nat) (raws : List Nat) : State × Job :=
  if s.accState ≠ .accumulating then (s, j)
  else if !j.urgent then
    ({ s with
        acc := Memory.write AccEntry.cold s.acc flat ((Memory.read AccEntry.cold s.acc flat).addAll raws) }, j)
  else if j.skipCounted then (s, j)
  else (s.bump (.part .pedestalSkip), { j with skipCounted := true })

/-- A mapped burst: select, accumulate, correct, suppress, align, clip and write (R119). -/
def State.conditionBurst (s : State) (j : Job) (c : ClassEntry) (place : Place) (b : Burst) : State × Job :=
  let pad := Memory.read Pad.cold s.pads place.flat
  let t := treatmentOf pad.mode c.kind
  let d := if c.kind = .pedestal ∧ t ≠ .dropped then s.deliver j place.flat b.raws else (s, j)
  let xs := alignSamples t pad ((b.start : Int) + s.offsets.get j.link) b.raws
  d.1.writePulses d.2 c place t (pulsesOf t c pad xs)

/-- A burst that is not malformed: an unmapped one is dropped (R100), a mapped one is conditioned. -/
def State.processBurst (s : State) (j : Job) (c : ClassEntry) (b : Burst) : State × Job :=
  match lookupPad s.windows s.rows j.link b.channel with
  | none => (s.bump (.link .unmapped j.link), { j with flags := { j.flags with unmapped := true } })
  | some place => s.conditionBurst j c place b

/-- A malformed burst stops the reading (R118). -/
def State.malformedBurst (s : State) (j : Job) : State × Job :=
  ((s.bump (.link .malformed j.link)).addError .frontMalformed,
    { j with stopped := true, flags := { j.flags with malformed := true } })

/-- The next burst of a job's source (R117, R118). -/
def State.nextBurst (s : State) (j : Job) (i : SlotNo) : State × Job :=
  match readBurst ((s.sourceWords j).drop j.position) with
  | none => s.malformedBurst j
  | some b =>
    s.processBurst { j with position := j.position + 3 + b.raws.length } (s.classes.get (s.slots.get i).cls) b

/-- Nothing of the job's source remains to be processed (R114, R117, R118, R130). -/
def State.jobFinished (s : State) (j : Job) : Bool :=
  j.stopped || decide ((s.sourceWords j).length ≤ j.position)

/-- One burst of the conditioning job in progress, if one remains. -/
def State.burstProcessing (s : State) : State :=
  match s.job with
  | none => s
  | some j => match j.outcome with
    | .park => s
    | .condition i =>
      if s.jobFinished j then s
      else { (s.nextBurst j i).1 with job := some (s.nextBurst j i).2 }

/-! ### The end of a conditioning job -/

/-- The record a job hands over; the event table sets EXTRA (R4, R15). -/
def Job.fragment (j : Job) (extra : Bool) : FragRecord :=
  { cells := j.cells, pulseCount := j.pulseCount, wordCount := j.wordCount, flags := { j.flags with extra := extra } }

/-- A slot with the job's record attached: an extra in conditioning becomes recorded, and else the contribution becomes
ARRIVED (R15). -/
def Slot.attach (x : Slot) (j : Job) : Slot :=
  if x.extras.get j.link = some .conditioning then
    { x with
      extras := x.extras.set j.link (some .recorded), records := x.records.set j.link (some (j.fragment true)) }
  else
    { x with
      contribs := x.contribs.set j.link (some .arrived), records := x.records.set j.link (some (j.fragment false)) }

/-- The cells of the record that an attachment to a link replaces. There is none, except where an extra candidate met a
later slot that reuses both its slot and its tag, with its link in the expected set (DESIGN CHOICE, log entry 22). -/
def Slot.displaced (x : Slot) (n : LinkNo) : List Nat := ((x.records.get n).map FragRecord.cells).getD []

/-- The source of a conditioning job leaves: the held frame, or the raw copy's cells (R51, R87). -/
def State.removeSource (s : State) (j : Job) : State :=
  match j.source with
  | .fifo => s.dropHeld j.link
  | .copy cells _ => s.returnCells cells

/-- The end of a conditioning job: attachment, check, removal of the source and the counter, as one event (R114). The cells of a
record that the attachment replaces join the free queue before those of the raw copy (DESIGN CHOICE, log entry 22: R135 orders no such
pair of chains). -/
def State.endCondition (s : State) (j : Job) (i : SlotNo) : State :=
  let t := { s.setSlot i ((s.slots.get i).attach j) with job := none }.returnCells ((s.slots.get i).displaced j.link)
  ((t.attachCheck i).removeSource j).bump (.link .fragmentsConditioned j.link)

/-- The end of the conditioning job in progress, once nothing of its source remains. -/
def State.conditioningJobEnd (s : State) : State :=
  match s.job with
  | none => s
  | some j => match j.outcome with
    | .park => s
    | .condition i => if s.jobFinished j then s.endCondition j i else s

/-- ARBITER_GRANT. -/
def execArbiterGrant (noticeFirst : Bool) (s : State) : Host.Outcome State Fault Refusal :=
  .next (s.arbiterGrant noticeFirst)

/-- BURST_PROCESSING. -/
def execBurstProcessing (s : State) : Host.Outcome State Fault Refusal := .next s.burstProcessing

/-- CONDITIONING_JOB_END. -/
def execConditioningJobEnd (s : State) : Host.Outcome State Fault Refusal := .next s.conditioningJobEnd

end Sys2Proof.Machine
end

