-- ==== Sys2Proof/Machine/Deadlines.lean ====
section
/-! DEFINITION. The deadline unit: the first and the second expiry of a slot (R29 to R38, R41). -/

namespace Sys2Proof.Machine

/-- A slot's deadline of a stage is due: the stage is pending and the timebase has reached its expiry time (R29). -/
def State.deadlineDue (s : State) (i : SlotNo) (stage : Stage) : Bool :=
  (s.deadlines.get i).stage == stage && (s.deadlines.get i).expiry == s.timebase

/-- Whether a first expiry extends the slot: 1 ≤ a ≤ straggler limit, and T2 above 0 (R32). -/
def extendsAt (c : ClassEntry) (awaited : Nat) : Bool :=
  decide (1 ≤ awaited) && decide (awaited ≤ c.stragglers) && decide (c.t2 > 0)

/-- An extension (R33). -/
def State.extendSlot (s : State) (i : SlotNo) : State :=
  let x := s.slots.get i
  let d := s.deadlines.get i
  let c := s.classes.get x.cls
  (((s.setSlot i { x with state := .extended }).setDeadline i
    { d with stage := .second, expiry := d.admitted + BitVec.ofNat 32 (c.t1 + c.t2) }).bump (.part .extensions))

/-- A first expiry, if it is due (R32; DESIGN CHOICE, log entry 2). -/
def State.firstExpiry (s : State) (i : SlotNo) : State :=
  if (s.slots.get i).state = .opened ∧ s.deadlineDue i .first then
    (if extendsAt (s.classes.get (s.slots.get i).cls) (s.slots.get i).awaited then s.extendSlot i
      else s.closeSlot i .firstDeadline)
  else s

/-- A second expiry, if it is due (R34; DESIGN CHOICE, log entry 2). -/
def State.secondExpiry (s : State) (i : SlotNo) : State :=
  if (s.slots.get i).state = .extended ∧ s.deadlineDue i .second then s.closeSlot i .secondDeadline else s

/-- FIRST_EXPIRY. -/
def execFirstExpiry (i : SlotNo) (s : State) : Host.Outcome State Fault Refusal := .next (s.firstExpiry i)

/-- SECOND_EXPIRY. -/
def execSecondExpiry (i : SlotNo) (s : State) : Host.Outcome State Fault Refusal := .next (s.secondExpiry i)

end Sys2Proof.Machine
end

