-- ==== Sys2Proof/Machine/Operands.lean ====
section
/-! DEFINITION. The operand forms: request frames and the row of the command table each belongs to, the checks a
request passes before it is executed, the clamping of written fields, and the entry layouts of the writable
spaces (R101, R174, R175, R178, R196, R197). -/

namespace Sys2Proof.Machine

/-! ### Requests -/

/-- A verb of a COMMAND (R196). -/
inductive Verb where
  | setupDone
  | start
  | stop
  | flush
  | warmReset
  | clearCounters
  | clearErrors
  | barLink
  | unbarLink
  | pedestalStart
  | pedestalStop
  | pedestalAdopt
  deriving DecidableEq, Repr

/-- The verb of a code, read as a whole word; verb 0 and verbs above 12 are undefined (R196). -/
def Verb.ofWord (w : Word) : Option Verb :=
  match w.toNat with
  | 1 => some .setupDone
  | 2 => some .start
  | 3 => some .stop
  | 4 => some .flush
  | 5 => some .warmReset
  | 6 => some .clearCounters
  | 7 => some .clearErrors
  | 8 => some .barLink
  | 9 => some .unbarLink
  | 10 => some .pedestalStart
  | 11 => some .pedestalStop
  | 12 => some .pedestalAdopt
  | _ => none

/-- The row of the command table that takes a request. -/
inductive RequestRow where
  | read
  | write
  | writeGeneral
  | writeWindows
  | writeRows
  | command (v : Verb)
  | undefined
  deriving DecidableEq, Repr

/-- The request kind: bits 15 to 8 of content word 0 (R196). -/
def requestKind (content : List Word) : Nat := field (content.getD 0 0) 8 8

/-- The request number: bits 7 to 0 of content word 0 (R196). -/
def requestNumber (content : List Word) : BitVec 8 := BitVec.ofNat 8 (content.getD 0 0).toNat

/-- The row a WRITE belongs to, by the space word it carries, if it carries one. -/
def writeRow (content : List Word) : RequestRow :=
  match (content[1]?).map BitVec.toNat with
  | some 0 => .writeGeneral
  | some 3 => .writeWindows
  | some 4 => .writeRows
  | _ => .write

/-- The row a COMMAND belongs to, by the verb word it carries, if it carries a defined one. -/
def commandRow (content : List Word) : RequestRow :=
  match (content[1]?).bind Verb.ofWord with
  | some v => .command v
  | none => .undefined

/-- The row of the command table that takes a request: every request belongs to exactly one (DESIGN CHOICE, log entry 3). -/
def rowOf (content : List Word) : RequestRow :=
  match requestKind content with
  | 1 => .read
  | 2 => writeRow content
  | 3 => commandRow content
  | _ => .undefined

/-- A management space (R177). -/
inductive Space where
  | general
  | links
  | classes
  | windows
  | rows
  | pads
  | pedestal
  | counters
  | status
  | slots
  deriving DecidableEq, Repr

/-- The space of a number, read as a whole word; numbers above 9 name no space (R175, R177). -/
def Space.ofWord (w : Word) : Option Space :=
  match w.toNat with
  | 0 => some .general
  | 1 => some .links
  | 2 => some .classes
  | 3 => some .windows
  | 4 => some .rows
  | 5 => some .pads
  | 6 => some .pedestal
  | 7 => some .counters
  | 8 => some .status
  | 9 => some .slots
  | _ => none

/-- The number of entries of a space (R177). -/
def Space.entries : Space → Nat
  | .general => 1
  | .links => 24
  | .classes => 8
  | .windows => 64
  | .rows => 48
  | .pads => 3072
  | .pedestal => 3072
  | .counters => 575
  | .status => 1
  | .slots => 64

/-- The words of one entry in a WRITE (R197); none for a read-only space. -/
def Space.writeSize : Space → Option Nat
  | .general => some 8
  | .links => some 1
  | .classes => some 13
  | .windows => some 6
  | .rows => some 1
  | .pads => some 4
  | .pedestal => none
  | .counters => none
  | .status => none
  | .slots => none

/-- A request that has passed the checks that do not depend on the state. -/
inductive Request where
  | read (space : Space) (index count : Nat)
  | write (space : Space) (index count : Nat) (entries : List Word)
  | command (verb : Verb) (argument : Word)
  deriving DecidableEq, Repr

/-- What the checks of R175 that do not depend on the state answer: the result that refuses the request, or the
request they pass. -/
inductive Verdict where
  | refuse (r : Result)
  | pass (r : Request)
  deriving DecidableEq, Repr

/-- Rows 2 to 7 of R175 for a READ, from its words after the first. -/
def judgeRead : List Word → Verdict
  | [space, index, count] =>
    match Space.ofWord space with
    | none => .refuse .badSpace
    | some sp =>
      if count.toNat = 0 ∨ count.toNat > Config.maxEntries then .refuse .badLength
      else if index.toNat + count.toNat > sp.entries then .refuse .badIndex
      else .pass (.read sp index.toNat count.toNat)
  | _ => .refuse .badLength

/-- Rows 2 to 7 of R175 for a WRITE, from its words after the first. -/
def judgeWrite : List Word → Verdict
  | space :: index :: count :: entries =>
    match Space.ofWord space with
    | none => .refuse .badSpace
    | some sp =>
      if count.toNat = 0 ∨ count.toNat > Config.maxEntries then .refuse .badLength
      else match sp.writeSize with
        | none => .refuse .readOnly
        | some size =>
          if entries.length ≠ count.toNat * size then .refuse .badLength
          else if index.toNat + count.toNat > sp.entries then .refuse .badIndex
          else .pass (.write sp index.toNat count.toNat entries)
  | _ => .refuse .badLength

/-- Whether a verb reads its argument as a link number (R174). -/
def Verb.namesLink : Verb → Bool
  | .barLink => true
  | .unbarLink => true
  | .setupDone | .start | .stop | .flush | .warmReset | .clearCounters | .clearErrors | .pedestalStart
  | .pedestalStop | .pedestalAdopt => false

/-- Rows 2 to 7 of R175 for a COMMAND, from its words after the first. -/
def judgeCommand : List Word → Verdict
  | [verb, argument] =>
    match Verb.ofWord verb with
    | none => .refuse .badSpace
    | some v => if v.namesLink ∧ argument.toNat > 23 then .refuse .badIndex else .pass (.command v argument)
  | _ => .refuse .badLength

/-- Rows 1 to 7 of R175, the first that applies. -/
def judge (content : List Word) : Verdict :=
  match requestKind content with
  | 1 => judgeRead (content.drop 1)
  | 2 => judgeWrite (content.drop 1)
  | 3 => judgeCommand (content.drop 1)
  | _ => .refuse .badSpace

/-- The reply to a request: request number, result, echo of its content words 1 to 3, and result data (R199). -/
def replyTo (content : List Word) (r : Result) (data : List Word) : Reply :=
  { number := requestNumber content, result := r, echo1 := content.getD 1 0, echo2 := content.getD 2 0,
    echo3 := content.getD 3 0, data := data }

/-! ### Written fields -/

/-- A value with the indication that clamping changed it. -/
structure Clamped (α : Type) where
  value : α
  changed : Bool
  deriving DecidableEq, Repr

/-- A written unsigned field, clamped to the nearest end of its range (R101, R178). -/
def clampNat (lo hi : Nat) (w : Word) : Clamped Nat :=
  if w.toNat < lo then ⟨lo, true⟩ else if w.toNat > hi then ⟨hi, true⟩ else ⟨w.toNat, false⟩

/-- A written signed field, clamped to the nearest end of its range (R178). -/
def clampInt (lo hi : Int) (w : Word) : Clamped Int :=
  if w.toInt < lo then ⟨lo, true⟩ else if w.toInt > hi then ⟨hi, true⟩ else ⟨w.toInt, false⟩

/-- A written number below `n + 1`, clamped to `n` (R101: the link and the row of a window). -/
def clampFin (n : Nat) (w : Word) : Clamped (Fin (n + 1)) :=
  if h : w.toNat < n + 1 then ⟨⟨w.toNat, h⟩, false⟩ else ⟨Fin.last n, true⟩

/-- A written GENERAL entry (R178, R197). -/
def generalOf (e : List Word) : Clamped General :=
  let segment := clampNat 0 63 (e.getD 0 0)
  let lookAhead := clampNat 1 255 (e.getD 1 0)
  let parkTime := clampNat 1 4095 (e.getD 2 0)
  let eventHold := clampNat 1 64 (e.getD 3 0)
  let eventRelease := clampNat 0 63 (e.getD 4 0)
  let cellHold := clampNat 0 8192 (e.getD 5 0)
  let cellResume := clampNat 0 8192 (e.getD 6 0)
  let stallTimeout := clampNat 1 1023 (e.getD 7 0)
  { value :=
      { segment := segment.value, lookAhead := lookAhead.value, parkTime := parkTime.value,
        eventHold := eventHold.value, eventRelease := eventRelease.value, cellHold := cellHold.value,
        cellResume := cellResume.value, stallTimeout := stallTimeout.value }
    changed := segment.changed || lookAhead.changed || parkTime.changed || eventHold.changed
      || eventRelease.changed || cellHold.changed || cellResume.changed || stallTimeout.changed }

/-- A written LINKS entry: the time offset, −64 to +63 (R177, R178). -/
def offsetOf (e : List Word) : Clamped Int := clampInt (-64) 63 (e.getD 0 0)

/-- A written CLASSES entry (R178, R197). -/
def classOf (e : List Word) : Clamped ClassEntry :=
  let admission := clampNat 1 64 (e.getD 3 0)
  let t1 := clampNat 1 16383 (e.getD 4 0)
  let t2 := clampNat 0 16383 (e.getD 5 0)
  let stragglers := clampNat 0 24 (e.getD 6 0)
  let driftWindow := clampNat 1 1024 (e.getD 7 0)
  let preSamples := clampNat 0 3 (e.getD 8 0)
  let postSamples := clampNat 0 7 (e.getD 9 0)
  let minWidth := clampNat 1 4 (e.getD 10 0)
  let mergeGap := clampNat 0 7 (e.getD 11 0)
  let cellLimit := clampNat 1 256 (e.getD 12 0)
  { value :=
      { kind := ClassKind.ofCode (field (e.getD 0 0) 0 2), expected := linkSetFrom (e.getD 1 0) (e.getD 2 0),
        admission := admission.value, t1 := t1.value, t2 := t2.value, stragglers := stragglers.value,
        driftWindow := driftWindow.value, preSamples := preSamples.value, postSamples := postSamples.value,
        minWidth := minWidth.value, mergeGap := mergeGap.value, cellLimit := cellLimit.value }
    changed := admission.changed || t1.changed || t2.changed || stragglers.changed || driftWindow.changed
      || preSamples.changed || postSamples.changed || minWidth.changed || mergeGap.changed || cellLimit.changed }

/-- A written WINDOWS entry (R101, R197). -/
def windowOf (e : List Word) : Clamped MapWindow :=
  let link := clampFin 23 (e.getD 1 0)
  let firstChannel := clampNat 0 127 (e.getD 2 0)
  let count := clampNat 1 128 (e.getD 3 0)
  let row := clampFin 47 (e.getD 4 0)
  let firstPad := clampNat 0 191 (e.getD 5 0)
  { value :=
      { valid := (e.getD 0 0).getLsbD 0, link := link.value, firstChannel := firstChannel.value, count := count.value,
        row := row.value, firstPad := firstPad.value, direction := Direction.ofBit ((e.getD 0 0).getLsbD 1) }
    changed := link.changed || firstChannel.changed || count.changed || row.changed || firstPad.changed }

/-- A written ROWS entry: the pad count, 0 to 192 (R97, R101). -/
def rowCountOf (e : List Word) : Clamped Nat := clampNat 0 192 (e.getD 0 0)

/-- A written PADS entry; mode code 3 is stored as MASKED and counts as a clamp (R178, R197). -/
def padOf (e : List Word) : Clamped Pad :=
  let pedestal := clampNat 0 4095 (e.getD 0 0)
  let gain := clampNat 0 511 (e.getD 1 0)
  let threshold := clampNat 0 1023 (e.getD 2 0)
  let mode := field (e.getD 3 0) 0 2
  { value := { pedestal := pedestal.value, gain := gain.value, threshold := threshold.value, mode := PadMode.ofCode mode }
    changed := pedestal.changed || gain.changed || threshold.changed || mode == 3 }

/-- The words of one entry of a WRITE, counted from 0. -/
def entryWords (size k : Nat) (entries : List Word) : List Word := (entries.drop (k * size)).take size

/-! ### Read layouts of the writable spaces (R197) -/

/-- GENERAL. -/
def General.words (g : General) : List Word :=
  [toWord g.segment, toWord g.lookAhead, toWord g.parkTime, toWord g.eventHold, toWord g.eventRelease,
    toWord g.cellHold, toWord g.cellResume, toWord g.stallTimeout]

/-- CLASSES. -/
def ClassEntry.words (c : ClassEntry) : List Word :=
  [toWord c.kind.code] ++ linkSetWords c.expected ++
    [toWord c.admission, toWord c.t1, toWord c.t2, toWord c.stragglers, toWord c.driftWindow, toWord c.preSamples,
      toWord c.postSamples, toWord c.minWidth, toWord c.mergeGap, toWord c.cellLimit]

/-- WINDOWS. -/
def MapWindow.words (w : MapWindow) : List Word :=
  [toWord (flagAt w.valid 0 + atBit w.direction.code 1), toWord w.link.val, toWord w.firstChannel, toWord w.count,
    toWord w.row.val, toWord w.firstPad]

/-- PADS. -/
def Pad.words (p : Pad) : List Word :=
  [toWord p.pedestal, toWord p.gain, toWord p.threshold, toWord p.mode.code]

/-- A reply frame's content words (R199); the CRC word follows them. -/
def Reply.words (r : Reply) : List Word :=
  [toWord (atBit 3 12 + atBit r.result.code 8 + r.number.toNat), r.echo1, r.echo2, r.echo3] ++ r.data

end Sys2Proof.Machine
end

