-- ==== Sys2Proof/Machine/Emission.lean ====
section
/-! DEFINITION. The emitter: event frames word by word, the return of cells as their words leave, and reply frames
(R25, R26, R141, R157 to R164, R167, R200). -/

namespace Sys2Proof.Machine

/-! ### Link sets of a slot (R26) -/

/-- The expected set of a slot: that of its class (R3, R26); empty for a FREE slot (R27). -/
def State.expectedSet (s : State) (x : Slot) : LinkSet :=
  if x.state = .free then 0 else (s.classes.get x.cls).expected

/-- The links whose contribution is in a state. -/
def Slot.linksIn (x : Slot) (c : Contribution) : LinkSet := linkSetOf (fun n => x.contribs.get n == some c)

/-- The conditioning set: a contribution in CONDITIONING, or an extra in conditioning. -/
def Slot.conditioningSet (x : Slot) : LinkSet :=
  linkSetOf (fun n => x.contribs.get n == some .conditioning || x.extras.get n == some .conditioning)

/-- The extra set: the links of the extras set that are recorded. -/
def Slot.extraSet (x : Slot) : LinkSet := linkSetOf (fun n => x.extras.get n == some .recorded)

/-! ### The event frame -/

/-- Whether a link has a section: it is a member of the arrived set or of the extra set (R161). -/
def Slot.hasSection (x : Slot) (n : LinkNo) : Bool :=
  x.contribs.get n == some .arrived || x.extras.get n == some .recorded

/-- The section count: the number of members of the arrived set plus the number of members of the extra set (R160, R200). -/
def Slot.sectionCount (x : Slot) : Nat :=
  (indices 24).countP (fun n => x.contribs.get n == some .arrived)
    + (indices 24).countP (fun n => x.extras.get n == some .recorded)

/-- The header words, taken from the slot as it stands (R160, R200). -/
def State.eventHeader (s : State) (x : Slot) : List Word :=
  [toWord (atBit 2 12 + s.general.segment), x.tag,
    toWord (x.cls.val + atBit x.status.code 4 + atBit x.cause.code 8)] ++ wide48 x.stamp ++ [toWord x.skippedBefore]
    ++ linkSetWords (s.expectedSet x) ++ linkSetWords (x.linksIn .arrived) ++ linkSetWords (x.linksIn .missing)
    ++ linkSetWords (x.linksIn .lost) ++ linkSetWords (x.linksIn .absent) ++ linkSetWords x.extraSet
    ++ [toWord x.sectionCount]

/-- The record of a link's section; a section whose record is gone is empty, which no run reaches (R5, R6). -/
def Slot.record (x : Slot) (n : LinkNo) : FragRecord := (x.records.get n).getD ⟨[], 0, 0, FragFlags.clear⟩

/-- The links that have a section, ascending, the two sets taken together (R161). A link in both sets has one section, since it has one
record (R3): DESIGN CHOICE, log entry 22. -/
def Slot.sections (x : Slot) : List LinkNo := (indices 24).filter x.hasSection

/-- The total word count: every data word before the CRC word (R162, R200). -/
def Slot.totalWords (x : Slot) : Nat :=
  Config.eventHeaderWords + (x.sections.map (fun n => Config.sectionHeaderWords + (x.record n).wordCount)).sum
    + Config.eventTrailerWords

/-- A word of a section: its header words, then the record's chain words. The cells already sent have left the chain, so
the word stands in the first cell the record still owns (R137, R141, R161). -/
def State.sectionWord (s : State) (x : Slot) (n : LinkNo) (w : Nat) : Word :=
  let r := x.record n
  match w with
  | 0 => toWord n.val
  | 1 => r.flags.toWord
  | 2 => toWord r.pulseCount
  | 3 => toWord r.wordCount
  | j + 4 => Memory.read 0 s.store (r.cells.headD 0 * Config.cellWords + j % Config.cellWords)

/-- A trailer word, with the slot's counts as they stand when it is sent (R162, R200). -/
def Slot.trailerWord (x : Slot) (w : Nat) : Word :=
  match w with
  | 0 => toWord (atBit x.late 8 + x.duplicate)
  | 1 => toWord (x.totalWords / 65536)
  | _ => toWord x.totalWords

/-- The word at a position of the event frame of a slot; none once every word has been sent. -/
def State.eventWord (s : State) (x : Slot) : Position → Option Word
  | .header w => some (s.emitter.header.getD w 0)
  | .sect n w => some (s.sectionWord x n w)
  | .trailer w => some (x.trailerWord w)
  | .crcNext => some s.emitter.crc
  | .endNext => none

/-- The position after the header or after a section: the first section of the links listed, or the trailer. -/
def afterSections : List LinkNo → Position
  | [] => .trailer 0
  | n :: _ => .sect n 0

/-- The position after a word (R160 to R162). -/
def Slot.nextPosition (x : Slot) : Position → Position
  | .header w => if w + 1 < Config.eventHeaderWords then .header (w + 1) else afterSections x.sections
  | .sect n w =>
    if w + 1 < Config.sectionHeaderWords + (x.record n).wordCount then .sect n (w + 1)
    else afterSections (x.sections.filter (fun m => decide (n < m)))
  | .trailer w => if w + 1 < Config.eventTrailerWords then .trailer (w + 1) else .crcNext
  | .crcNext => .endNext
  | .endNext => .endNext

/-- The word at a position is the last held word of a cell (R141). -/
def Slot.completesCell (x : Slot) : Position → Bool
  | .sect n (j + 4) =>
    decide (j % Config.cellWords = Config.cellWords - 1) || decide (j + 1 = (x.record n).wordCount)
  | _ => false

/-- The first cell a link's record still owns is returned to the store (R141, R163). -/
def State.returnFirstCell (s : State) (i : SlotNo) (n : LinkNo) : State :=
  let x := s.slots.get i
  match x.records.get n with
  | none => s
  | some r =>
    (s.setSlot i { x with records := x.records.set n (some { r with cells := r.cells.drop 1 }) }).returnCells
      (r.cells.take 1)

/-- The return of a cell at the word sent, if that word completes one. -/
def State.returnAt (s : State) (i : SlotNo) (p : Position) : State :=
  match p with
  | .sect n _ => if (s.slots.get i).completesCell p then s.returnFirstCell i n else s
  | .header _ | .trailer _ | .crcNext | .endNext => s

/-- The emitter may start a frame: it is idle and the uplink receiver is LIVE (R157, R159). -/
def State.atBoundary (s : State) : Bool := s.emitter.frame == .none && s.uplink.link == .live

/-- EVENT_FRAME_START: at a boundary with an empty reply queue and the farm at GO, the CLOSED slot at get becomes EMITTING,
the header is built and START is sent (R159, R160). -/
def State.eventFrameStart (s : State) : State :=
  let x := s.slots.get s.get
  if s.atBoundary ∧ s.replies = [] ∧ x.state = .closed ∧ s.farmFlow = .go then
    { s.setSlot s.get { x with state := .emitting } with
      emitter := ⟨.event, false, .header 0, s.eventHeader x, crcStart⟩ }.emit .uplink .start
  else s

/-- One word of the event frame is sent (R157, R161 to R163). -/
def State.sendEventWord (s : State) (w : Word) : State :=
  let p := s.emitter.position
  let x := s.slots.get s.get
  ({ s with
      emitter := { s.emitter with position := x.nextPosition p, crc := crcWord s.emitter.crc w } }.emit .uplink
    (.data w)).returnAt s.get p

/-- EVENT_FRAME_WORD_SENT: nothing is sent while the farm holds the frame (R164; log entry 13). -/
def State.eventFrameWordSent (s : State) : State :=
  if s.emitter.frame = .event ∧ s.emitter.held = false then
    match s.eventWord (s.slots.get s.get) s.emitter.position with
    | some w => s.sendEventWord w
    | none => s
  else s

/-- The counter of a status at the END of an event frame (R162). -/
def Status.counter : Status → Option Counter
  | .none => Option.none
  | .complete => some (.part .sentComplete)
  | .partly => some (.part .sentPartial)
  | .flushed => some (.part .sentFlushed)

/-- EVENT_FRAME_END: END is sent, the slot becomes FREE, and the counters rise (R25, R162). -/
def State.eventFrameEnd (s : State) : State :=
  if s.emitter.frame = .event ∧ s.emitter.held = false ∧ s.emitter.position = .endNext then
    let status := (s.slots.get s.get).status
    ((({ s with emitter := Emitter.idle }.emit .uplink .endCode).freeSlotAtGet.bump
      (.part .eventFramesSent)).bumpOption status.counter)
  else s

/-! ### Reply frames -/

/-- REPLY_FRAME_START: at a boundary the reply at the head of the queue starts to be sent (R159, R167). -/
def State.replyFrameStart (s : State) : State :=
  if s.atBoundary ∧ s.replies ≠ [] then
    { s with emitter := { Emitter.idle with frame := .reply } }.emit .uplink .start
  else s

/-- The codes a reply frame sends after its START: its content words, its CRC word and END (R157, R199). -/
def Reply.codes (r : Reply) : List (Lane × LaneCode) :=
  (r.words ++ [crcOf r.words]).map (fun w => (.uplink, .data w)) ++ [(.uplink, .endCode)]

/-- REPLY_FRAME_END: the reply has been sent to its END, and it leaves the queue (R167). -/
def State.replyFrameEnd (s : State) : State :=
  match s.emitter.frame, s.replies with
  | .reply, r :: rest =>
    { s with emitter := Emitter.idle, replies := rest, out := s.out ++ r.codes }.bump (.part .replyFramesSent)
  | _, _ => s

/-- EVENT_FRAME_START. -/
def execEventFrameStart (s : State) : Host.Outcome State Fault Refusal := .next s.eventFrameStart

/-- EVENT_FRAME_WORD_SENT. -/
def execEventFrameWordSent (s : State) : Host.Outcome State Fault Refusal := .next s.eventFrameWordSent

/-- EVENT_FRAME_END. -/
def execEventFrameEnd (s : State) : Host.Outcome State Fault Refusal := .next s.eventFrameEnd

/-- REPLY_FRAME_START. -/
def execReplyFrameStart (s : State) : Host.Outcome State Fault Refusal := .next s.replyFrameStart

/-- REPLY_FRAME_END. -/
def execReplyFrameEnd (s : State) : Host.Outcome State Fault Refusal := .next s.replyFrameEnd

end Sys2Proof.Machine
end

