-- ==== Sys2Proof/Machine/Links.lean ====
section
/-! DEFINITION. The link layer common to all lanes, frame reception on the front links, the timing link and the
uplink, loss of lock, and the stall expiries (R57, R58, R76 to R89, R92, R165, R166, R168). -/

namespace Sys2Proof.Machine

/-! ### Codes and frames -/

/-- A valid code reaches a receiver. In DARK and BARRED nothing is received; in ALIGNING a code other than IDLE sets
the IDLE count to 0 (R76); in LIVE it clears the code error count (R77) and does what its row says. -/
def State.onValidCode (s : State) (l : Lane) (live : State → State) : State :=
  match (s.rx l).link with
  | .dark | .barred => s
  | .aligning => s.setRx l { s.rx l with idleCount := 0 }
  | .live => live (s.setRx l { s.rx l with codeErrors := 0 })

/-- Whether the stall timer of a lane runs: on a front link only while its flow state is GO (R85), on the timing link
and the uplink always (R58, R165). -/
def State.stallRuns (s : State) : Lane → Bool
  | .front n => (s.front.get n).flow == .go
  | .timing => true
  | .uplink => true

/-- The stall timer started or restarted now, if it runs (R85). -/
def State.stallNow (s : State) (l : Lane) : Option Time := if s.stallRuns l then some s.stallExpiry else none

/-- A START opens a frame (R78). -/
def State.openFrame (s : State) (l : Lane) : State :=
  s.setRx l { s.rx l with frame := .receiving, words := [], crc := crcStart, stall := s.stallNow l }

/-- The flow decision after a change of a lane's occupancy; only a front link has one (R88). -/
def State.evalLane (s : State) : Lane → State
  | .front n => s.evalFront n
  | .timing => s
  | .uplink => s

/-- The frame in RECEIVING is given up: its words leave, its timer stops, and the frame state becomes `next` (R78). -/
def State.leaveFrame (s : State) (l : Lane) (next : FrameState) : State :=
  let t := s.setRx l { s.rx l with frame := next, words := [], crc := crcStart, stall := none }
  if (s.rx l).words = [] then t else t.evalLane l

/-- A data word joins the frame in RECEIVING; the running CRC takes the word before it (R78, R81). -/
def Receiver.push (r : Receiver) (w : Word) : Receiver :=
  { r with
    words := r.words ++ [w]
    crc := match r.words.getLast? with
      | none => r.crc
      | some v => crcWord r.crc v }

/-- The data word is kept: it joins the frame, the stall timer restarts, and a front receiver's flow decision sees the
new occupancy (R78, R85, R88). -/
def State.keepWord (s : State) (l : Lane) (w : Word) : State :=
  (s.setRx l { (s.rx l).push w with stall := s.stallNow l }).evalLane l

/-- The CRC word checks: the last data word equals the CRC of the words before it (R81). -/
def Receiver.crcGood (r : Receiver) : Bool := r.words.getLast? == some r.crc

/-- A discarded timing frame raises its counter and adds no cause (R58). -/
def State.countTimingDiscard (s : State) : State := s.bump (.part .timingFrameDiscarded)

/-- A request frame discarded for length, CUT, misplaced START or stall (R165). -/
def State.countRequestDiscard (s : State) : State :=
  (s.bump (.part .requestFramesDiscarded)).addError .requestDropped

/-- A request frame discarded for its CRC or for a code error (R165). -/
def State.countRequestCrc (s : State) : State := (s.bump (.part .requestCrcErrors)).addError .requestDropped

/-- A front discard's counter and cause (R94). -/
def State.countFront (s : State) (n : LinkNo) (k : LinkCounter) (e : ErrorCause) : State :=
  (s.bump (.link k n)).addError e

/-- A data word, END or CUT outside a frame: counted on a front link (R78) and on the uplink (R165), without effect on
the timing link (R58). -/
def State.countUnframed (s : State) : Lane → State
  | .front n => s.bump (.link .unframedCodes n)
  | .timing => s
  | .uplink => s.bump (.part .uplinkUnframedCodes)

/-! ### SYMBOL_LOCK and LINK_IDLE -/

/-- A DARK receiver acquires symbol lock (R76). -/
def State.lock (s : State) (l : Lane) : State :=
  if (s.rx l).link = .dark then s.setRx l { s.rx l with link := .aligning, idleCount := 0 } else s

/-- Entry to LIVE: the code error count starts at 0 (DEDUCED, log entry 10); the flow symbol is due again on the return lane of a
front link, whose loss notice state is cleared (R89, R92), and on that of the timing link (R71). -/
def State.enterLive (s : State) (l : Lane) : State :=
  let t := s.setRx l { s.rx l with link := .live, idleCount := Config.idlesToLive, codeErrors := 0 }
  match l with
  | .front n => t.setFront n { t.front.get n with notice := .none, due := (t.front.get n).due.orAgain }
  | .timing => { t with timingDue := t.timingDue.orAgain }
  | .uplink => t

/-- A valid IDLE (R76, R77). -/
def State.idle (s : State) (l : Lane) : State :=
  match (s.rx l).link with
  | .dark | .barred => s
  | .aligning =>
    if (s.rx l).idleCount + 1 ≥ Config.idlesToLive then s.enterLive l
    else s.setRx l { s.rx l with idleCount := (s.rx l).idleCount + 1 }
  | .live => s.setRx l { s.rx l with codeErrors := 0 }

/-! ### LINK_START -/

/-- A START inside a frame in RECEIVING discards that frame (R58, R84, R165). -/
def State.countMisplacedStart (s : State) : Lane → State
  | .front n => s.countFront n .stall .frontStall
  | .timing => s.countTimingDiscard
  | .uplink => s.countRequestDiscard

/-- A START at a LIVE receiver (R78). -/
def State.startLive (s : State) (l : Lane) : State :=
  if (s.rx l).frame = .receiving then ((s.leaveFrame l .discarding).countMisplacedStart l).openFrame l
  else s.openFrame l

/-! ### LINK_DATA_WORD -/

/-- Whether a first data word makes a front frame foreign: its kind is not DATA or its segment id differs (R79). -/
def State.foreignWord (s : State) (w : Word) : Bool :=
  decide (field w 12 4 ≠ 1) || decide (field w 0 6 ≠ s.general.segment)

/-- A data word of a front frame in RECEIVING: the oversize check, the overflow check, the foreign check on the first
word, and else the word is written (R78, R79, R83). That a full FIFO is found before a foreign first word: DEDUCED, log
entry 9. -/
def State.frontWord (s : State) (n : LinkNo) (w : Word) : State :=
  let f := s.front.get n
  if f.rx.words.length + 1 > Config.frontMaxWords then
    (s.leaveFrame (.front n) .discarding).countFront n .oversize .frontOversize
  else if f.occupancy + 1 > Config.fifoWords then
    (s.leaveFrame (.front n) .discarding).countFront n .overflow .frontOverflow
  else if f.rx.words = [] ∧ s.foreignWord w then
    (s.leaveFrame (.front n) .discarding).bump (.link .foreign n)
  else s.keepWord (.front n) w

/-- A data word of a timing frame in RECEIVING: a seventh one discards the frame (R58). -/
def State.timingWord (s : State) (w : Word) : State :=
  if s.timing.words.length + 1 > Config.triggerWords then (s.leaveFrame .timing .discarding).countTimingDiscard
  else s.keepWord .timing w

/-- A data word of a request frame in RECEIVING: the 513th one discards the frame (R165). -/
def State.requestWord (s : State) (w : Word) : State :=
  if s.uplink.words.length + 1 > Config.requestBufferWords then
    (s.leaveFrame .uplink .discarding).countRequestDiscard
  else s.keepWord .uplink w

/-- A data word at a LIVE receiver (R78). -/
def State.dataLive (s : State) (l : Lane) (w : Word) : State :=
  match (s.rx l).frame with
  | .outside => s.countUnframed l
  | .discarding => s
  | .receiving => match l with
    | .front n => s.frontWord n w
    | .timing => s.timingWord w
    | .uplink => s.requestWord w

/-! ### LINK_CUT -/

/-- A CUT ends a frame in RECEIVING, which is discarded (R58, R84, R165). -/
def State.countCut (s : State) : Lane → State
  | .front n => s.bump (.link .cutEnded n)
  | .timing => s.countTimingDiscard
  | .uplink => s.countRequestDiscard

/-- A CUT at a LIVE receiver (R78). -/
def State.cutLive (s : State) (l : Lane) : State :=
  match (s.rx l).frame with
  | .outside => s.countUnframed l
  | .discarding => s.setRx l { s.rx l with frame := .outside }
  | .receiving => (s.leaveFrame l .outside).countCut l

/-! ### LINK_END on the front links and the uplink -/

/-- The judgement of a front frame at its END: the first row of R80 that applies. A committed frame becomes the last
waiting frame, and the occupancy does not change (R86). -/
def State.judgeFront (s : State) (n : LinkNo) : State :=
  let f := s.front.get n
  if f.rx.words.length < Config.frontMinWords then
    (s.leaveFrame (.front n) .outside).countFront n .short .frontMalformed
  else if !f.rx.crcGood then (s.leaveFrame (.front n) .outside).countFront n .crcErrors .frontCrc
  else if s.runState = .setup ∨ s.runState = .ready then
    (s.leaveFrame (.front n) .outside).bump (.link .idleDiscard n)
  else
    (s.setFront n
      { f with
        waiting := f.waiting ++ [f.rx.words]
        rx := { f.rx with frame := .outside, words := [], crc := crcStart, stall := none } }).bump
      (.link .framesCommitted n)

/-- A received request joins the inbound request queue, or is dropped when it holds 4 (R166). -/
def State.receiveRequest (s : State) (content : List Word) : State :=
  if s.requests.length < Config.requestCapacity then { s with requests := s.requests ++ [content] }
  else (s.bump (.part .requestQueueOverflow)).addError .requestDropped

/-- The judgement of a request frame at its END (R165). -/
def State.judgeRequest (s : State) : State :=
  let r := s.uplink
  if r.words.length < 2 then (s.leaveFrame .uplink .outside).countRequestDiscard
  else if !r.crcGood then (s.leaveFrame .uplink .outside).countRequestCrc
  else (s.leaveFrame .uplink .outside).receiveRequest r.words.dropLast

/-! ### LINK_CODE_ERROR -/

/-- A code error inside a frame (R58, R82, R165). -/
def State.countFrameError (s : State) : Lane → State
  | .front n => s.countFront n .crcErrors .frontCrc
  | .timing => s.countTimingDiscard
  | .uplink => s.countRequestCrc

/-- A code error in LIVE is counted on a front link (R77) and on the uplink (R165). -/
def State.countCodeError (s : State) : Lane → State
  | .front n => s.bump (.link .codeErrors n)
  | .timing => s
  | .uplink => s.bump (.part .uplinkCodeErrors)

/-- The loss notice machinery at a loss of lock (R92): delivered at once without a waiting frame, else PENDING. -/
def State.noticeAtLoss (s : State) (n : LinkNo) : State :=
  let f := s.front.get n
  if f.notice = .none then
    (if f.waiting.isEmpty then (s.setFront n { f with notice := .delivered }).lossNotice n
      else s.setFront n { f with notice := .pending })
  else s

/-- The emission abort of an uplink loss: the frame is closed with CUT, the slot becomes FREE with its cells returned, and
the emission aborted counter rises (R25, R141, R168). A frame whose CRC word has been sent and whose END has not is closed with CUT as
well (DESIGN CHOICE, log entry 25). -/
def State.abortEvent (s : State) : State :=
  ({ s with emitter := Emitter.idle }.emit .uplink .cut).freeSlotAtGet.bump (.part .emissionAborted)

/-- The frame in progress is abandoned at an uplink loss, closed with CUT (R168). -/
def State.abandonFrame (s : State) : State :=
  match s.emitter.frame with
  | .none => s
  | .event => s.abortEvent
  | .reply => { s with emitter := Emitter.idle }.emit .uplink .cut

/-- The uplink receiver leaves LIVE for DARK (R168). -/
def State.uplinkLoss (s : State) : State :=
  let t := ({ s with farmFlow := .go }.bump (.part .uplinkLosses)).addError .uplinkLost
  let u := t.abandonFrame
  { u.bumpBy (.part .repliesDropped) u.replies.length with replies := [] }

/-- What a loss of lock does beyond the link state: R77 and R92 on a front link, R59 on the timing link, R168 on the
uplink. -/
def State.afterLoss (s : State) : Lane → State
  | .front n => ((s.bump (.link .lockLosses n)).addError .linkLost).noticeAtLoss n
  | .timing => (s.bump (.part .timingLinkLosses)).addError .timingLost
  | .uplink => s.uplinkLoss

/-- A LIVE receiver loses lock (R77): DARK, and the frame state becomes OUTSIDE (R78). That the code error count becomes 0:
DEDUCED, log entry 10. -/
def State.loseLock (s : State) (l : Lane) : State :=
  (s.setRx l { s.rx l with link := .dark, codeErrors := 0, frame := .outside }).afterLoss l

/-- A code error at a LIVE receiver: counted, ending a frame in RECEIVING, and the fourth consecutive one loses lock
(R77, R82). -/
def State.codeErrorLive (s : State) (l : Lane) : State :=
  let c := s.countCodeError l
  let t := if (s.rx l).frame = .receiving then (c.leaveFrame l .discarding).countFrameError l else c
  if (s.rx l).codeErrors + 1 ≥ Config.errorsToDark then t.loseLock l
  else t.setRx l { t.rx l with codeErrors := (s.rx l).codeErrors + 1 }

/-- A code error reaches a receiver (R76, R77). -/
def State.codeError (s : State) (l : Lane) : State :=
  match (s.rx l).link with
  | .dark | .barred => s
  | .aligning => s.setRx l { s.rx l with link := .dark }
  | .live => s.codeErrorLive l

/-! ### The farm's flow symbols -/

/-- A flow symbol from the farm at the LIVE uplink receiver: the farm flow state follows it, a change to HOLD is counted,
and an event frame in progress is held or resumes (R164). That the frame's CRC word and END are held too: DEDUCED, log
entry 13. -/
def State.farmFlowLive (s : State) (f : Flow) : State :=
  if f = s.farmFlow then s
  else
    let t := { s with
      farmFlow := f
      emitter := { s.emitter with held := decide (s.emitter.frame = .event ∧ f = .hold) } }
    if f = .hold then t.bump (.part .farmHoldReceived) else t

/-! ### Stall expiry -/

/-- The stall timer of a lane's frame is due: a frame is in RECEIVING and the timebase has reached the recorded reading
(R85). -/
def State.stallDue (s : State) (l : Lane) : Bool :=
  (s.rx l).frame == .receiving && (s.rx l).stall == some s.timebase

/-- The frame is discarded as stalled, if its timer is due (R58, R84, R165; DESIGN CHOICE, log entry 2). -/
def State.stallOut (s : State) (l : Lane) : State :=
  if s.stallDue l then (s.leaveFrame l .discarding).countMisplacedStart l else s

/-! ### The rows

A code that arrives on a lane follows a word boundary of that lane (R74; DESIGN CHOICE, log entry 4). -/

/-- SYMBOL_LOCK. -/
def execSymbolLock (l : Lane) (s : State) : Host.Outcome State Fault Refusal := .next (s.lock l)

/-- LINK_IDLE. -/
def execLinkIdle (l : Lane) (s : State) : Host.Outcome State Fault Refusal := .next ((s.wordBoundary l).idle l)

/-- LINK_START. -/
def execLinkStart (l : Lane) (s : State) : Host.Outcome State Fault Refusal :=
  .next ((s.wordBoundary l).onValidCode l (fun t => t.startLive l))

/-- LINK_DATA_WORD. -/
def execLinkDataWord (l : Lane) (w : Word) (s : State) : Host.Outcome State Fault Refusal :=
  .next ((s.wordBoundary l).onValidCode l (fun t => t.dataLive l w))

/-- LINK_CUT. -/
def execLinkCut (l : Lane) (s : State) : Host.Outcome State Fault Refusal :=
  .next ((s.wordBoundary l).onValidCode l (fun t => t.cutLive l))

/-- LINK_CODE_ERROR. -/
def execLinkCodeError (l : Lane) (s : State) : Host.Outcome State Fault Refusal := .next ((s.wordBoundary l).codeError l)

/-- FARM_FLOW_SYMBOL. -/
def execFarmFlowSymbol (f : Flow) (s : State) : Host.Outcome State Fault Refusal :=
  .next (s.onValidCode .uplink (fun t => t.farmFlowLive f))

/-- INBOUND_FLOW_SYMBOL: on a front link and on the timing link a HOLD or GO is a valid code and nothing more (R75). On the
uplink, which this row does not name, the symbol is the farm's (DESIGN CHOICE, log entry 20). -/
def execInboundFlowSymbol (l : Lane) (f : Flow) (s : State) : Host.Outcome State Fault Refusal :=
  match l with
  | .front n => .next ((s.wordBoundary (.front n)).onValidCode (.front n) id)
  | .timing => .next ((s.wordBoundary .timing).onValidCode .timing id)
  | .uplink => .next (s.onValidCode .uplink (fun t => t.farmFlowLive f))

/-- FRONT_STALL_EXPIRY. -/
def execFrontStallExpiry (n : LinkNo) (s : State) : Host.Outcome State Fault Refusal := .next (s.stallOut (.front n))

/-- TIMING_STALL_EXPIRY. -/
def execTimingStallExpiry (s : State) : Host.Outcome State Fault Refusal := .next (s.stallOut .timing)

/-- REQUEST_STALL_EXPIRY. -/
def execRequestStallExpiry (s : State) : Host.Outcome State Fault Refusal := .next (s.stallOut .uplink)

end Sys2Proof.Machine
end

