-- ==== Sys2Proof/Machine/Intake.lean ====
section
/-! DEFINITION. Trigger intake: trigger messages, the admission checks, refusal and admission (R57 to R72), and the
LINK_END row, by which a trigger message arrives. -/

namespace Sys2Proof.Machine

/-- A trigger message's fields (R57). -/
structure Trigger where
  tag : Tag
  cls : ClassNo
  stamp : Stamp
  deriving DecidableEq, Repr

/-- The trigger message of six data words, the CRC word last (R57, R195). -/
def triggerOf : List Word → Trigger
  | [tag, cls, hi, mid, lo, _] => ⟨tag, Fin.ofNat 8 cls.toNat, stampOf hi mid lo⟩
  | _ => ⟨0, 0, 0⟩

/-- The effects common to every refusal (R65), with the kind's counter and cause. -/
def State.refuseTrigger (s : State) (tag : Tag) (c : Counter) (e : ErrorCause) : State :=
  ((({ s with pendingSkipped := min Config.skippedMax (s.pendingSkipped + 1) }.dropOrphans
    (fun o => o.tag == tag)).bump c).addError e)

/-- The contribution a link opens with: none outside the expected set, AWAITED when its receiver is LIVE, else ABSENT
(R7). -/
def State.openingContribution (s : State) (cls : ClassNo) (n : LinkNo) : Option Contribution :=
  if inSet (s.classes.get cls).expected n then
    (if (s.front.get n).rx.link = .live then some .awaited else some .absent)
  else none

/-- The slot record an admission opens (R7). -/
def State.openedSlot (s : State) (t : Trigger) : Slot :=
  { Slot.empty with
    state := .opened, tag := t.tag, cls := t.cls, stamp := t.stamp, skippedBefore := s.pendingSkipped,
    contribs := Bank.build (fun n => s.openingContribution t.cls n) }

/-- The deadline record an admission starts (R31). -/
def State.openedDeadline (s : State) (t : Trigger) : Deadline :=
  ⟨.first, s.timebase, s.timebase + BitVec.ofNat 32 (s.classes.get t.cls).t1⟩

/-- Steps 1 to 5 of an admission: the slot at put opens, the pending skipped count clears, the deadline starts, put and
fill advance, and the newest admitted tag is set (R66). -/
def State.openSlot (s : State) (t : Trigger) : State :=
  let u := (s.setSlot s.put (s.openedSlot t)).setDeadline s.put (s.openedDeadline t)
  { u with pendingSkipped := 0, put := s.put + 1, fill := s.fill + 1, newestTag := some t.tag }.evalTiming

/-- An admission (R66): the slot opens, the orphans of its tag are adopted, the ALL_IN check is made, and the counter of
the class rises. -/
def State.openTrigger (s : State) (t : Trigger) : State :=
  (((s.openSlot t).adoptAll s.put t.tag).allInCheck s.put).bump (.admitted t.cls)

/-- A trigger message at trigger intake: ignored outside RUNNING (R60), else put through the checks of R61 in order. -/
def State.receiveTrigger (s : State) (t : Trigger) : State :=
  if s.runState ≠ .running then s.bump (.part .triggerOutsideRun)
  else if (s.classes.get t.cls).kind = .disabled then
    s.refuseTrigger t.tag (.part .refusedDisabled) .triggerRefused
  else if (s.slotOfTag t.tag).isSome then s.refuseTrigger t.tag (.part .refusedDuplicate) .triggerDuplicate
  else if s.fill ≥ (s.classes.get t.cls).admission then
    s.refuseTrigger t.tag (.refusedLevel t.cls) .triggerRefused
  else s.openTrigger t

/-- The judgement of a timing frame at its END: a trigger message has five content words and a good CRC (R57, R58). -/
def State.judgeTiming (s : State) : State :=
  let r := s.timing
  if r.words.length = Config.triggerWords ∧ r.crcGood then
    (s.leaveFrame .timing .outside).receiveTrigger (triggerOf r.words)
  else (s.leaveFrame .timing .outside).countTimingDiscard

/-- An END at a LIVE receiver (R78). -/
def State.endLive (s : State) (l : Lane) : State :=
  match (s.rx l).frame with
  | .outside => s.countUnframed l
  | .discarding => s.setRx l { s.rx l with frame := .outside }
  | .receiving => match l with
    | .front n => s.judgeFront n
    | .timing => s.judgeTiming
    | .uplink => s.judgeRequest

/-- LINK_END. -/
def execLinkEnd (l : Lane) (s : State) : Host.Outcome State Fault Refusal :=
  .next ((s.wordBoundary l).onValidCode l (fun t => t.endLive l))

end Sys2Proof.Machine
end

