-- ==== Sys2Proof/Machine/Management.lean ====
section
/-! DEFINITION. Run control as the interpreter of requests: taking a request, READ of every space and WRITE of the
writable ones (R27, R96, R97, R101, R155, R174 to R180, R197, R198). -/

namespace Sys2Proof.Machine

/-! ### Taking a request -/

/-- What executing a request answers: the state after it, the result, and the result data. -/
structure Answer where
  state : State
  result : Result
  data : List Word

/-- A request refused by its own rule: nothing changes (R175, R185). -/
def State.refuse (s : State) (r : Result) : Answer := ⟨s, r, []⟩

/-- A request answered DONE with no result data. -/
def State.accept (s : State) : Answer := ⟨s, .done, []⟩

/-- The reply joins the tail of the reply queue (R174). -/
def Answer.finish (a : Answer) (content : List Word) : State :=
  { a.state with replies := a.state.replies ++ [replyTo content a.result a.data] }

/-- Run control may take the request at the head of the queue: it executes none, and the reply queue has room (R166,
R174). -/
def State.mayTake (s : State) : Bool := !s.executing && decide (s.replies.length < Config.replyCapacity)

/-- Run control takes the request at the head of the inbound request queue, if it belongs to this row: it leaves the queue,
is checked and executed, and its reply is appended, as one event (R166, R174, R175). -/
def State.take (s : State) (row : RequestRow) (run : State → Request → Answer) : State :=
  match s.requests with
  | [] => s
  | content :: rest =>
    if s.mayTake ∧ rowOf content = row then
      match judge content with
      | .refuse r => ({ s with requests := rest }.refuse r).finish content
      | .pass req => (run { s with requests := rest } req).finish content
    else s

/-! ### READ -/

/-- A LINKS entry (R94, R197). -/
def State.linkWords (s : State) (n : LinkNo) : List Word :=
  let f := s.front.get n
  [BitVec.ofInt 16 (s.offsets.get n),
    toWord (f.rx.link.code + atBit (flowCode f.flow) 2 + atBit f.notice.code 4), toWord f.occupancy,
    toWord f.waiting.length]

/-- A ROWS entry: the pad count and the row start as computed now (R97). -/
def State.rowWords (s : State) (r : RowNo) : List Word := [toWord (s.rows.get r), toWord (rowStart s.rows r)]

/-- A PEDESTAL entry (R155, R198): the sum in two words as R194 gives, then the count. -/
def AccEntry.words (e : AccEntry) : List Word := [toWord (e.sum / 65536), toWord e.sum, toWord e.count]

/-- A SLOTS entry (R27, R198). -/
def State.slotWords (s : State) (i : SlotNo) : List Word :=
  let x := s.slots.get i
  let d := s.deadlines.get i
  [toWord (x.state.code + atBit x.cls.val 4 + atBit d.stage.code 8), x.tag] ++ wide48 x.stamp
    ++ [toWord x.skippedBefore, toWord (atBit x.late 8 + x.duplicate)] ++ wide32 d.expiry.toNat
    ++ [toWord (x.status.code + atBit x.cause.code 4)]
    ++ linkSetWords (s.expectedSet x) ++ linkSetWords (x.linksIn .awaited) ++ linkSetWords (x.linksIn .queued)
    ++ linkSetWords x.conditioningSet ++ linkSetWords (x.linksIn .arrived) ++ linkSetWords (x.linksIn .missing)
    ++ linkSetWords (x.linksIn .lost) ++ linkSetWords (x.linksIn .absent) ++ linkSetWords x.extraSet
    ++ [toWord x.cells.length] ++ wide32 ((indices 24).map (fun n => (x.record n).wordCount)).sum

/-- One of the three words of front link states: eight links, two bits each (R198). -/
def State.linkStateWord (s : State) (group : Nat) : Word :=
  toWord ((indices 24).foldl (fun sum n =>
    if n.val / 8 = group then sum + atBit (s.front.get n).rx.link.code (2 * (n.val % 8)) else sum) 0)

/-- The conditioning unit's STATUS word (R131, R198). -/
def State.jobWord (s : State) : Word :=
  match s.job with
  | none => toWord s.rotation.val
  | some j =>
    toWord (atBit 1 15 + atBit j.outcome.code 14 + atBit j.requester.val 8 + s.rotation.val)

/-- The STATUS entry (R179, R198). -/
def State.statusWords (s : State) : List Word :=
  [toWord (s.runState.code + flagAt s.locked 2 + atBit s.accState.code 4 + atBit s.timing.link.code 8
      + atBit (flowCode s.timingFlow) 10 + flagAt s.newestTag.isSome 11 + atBit s.uplink.link.code 12
      + atBit (flowCode s.farmFlow) 14),
    toWord s.errors.toNat, toWord s.fill, toWord s.get.val, toWord s.put.val, s.newestTag.getD 0,
    toWord s.pendingSkipped, s.linkStateWord 0, s.linkStateWord 1, s.linkStateWord 2]
    ++ linkSetWords (linkSetOf (fun n => (s.front.get n).flow == .hold))
    ++ [toWord s.orphans.length, toWord s.adoption.length, s.jobWord, toWord s.freeCount, toWord s.lowMark,
      toWord (s.emitter.code + atBit s.replies.length 4 + atBit s.requests.length 8)]
    ++ wide32 s.timebase.toNat

/-- The words of one entry of a space (R176, R197, R198). The index is within the space by R175. -/
def State.entry (s : State) (sp : Space) (index : Nat) : List Word :=
  match sp with
  | .general => s.general.words
  | .links => s.linkWords (Fin.ofNat 24 index)
  | .classes => (s.classes.get (Fin.ofNat 8 index)).words
  | .windows => (s.windows.get (Fin.ofNat 64 index)).words
  | .rows => s.rowWords (Fin.ofNat 48 index)
  | .pads => (Memory.read Pad.cold s.pads index).words
  | .pedestal => (Memory.read AccEntry.cold s.acc index).words
  | .counters => wide32 (Memory.read 0 s.counters index)
  | .status => s.statusWords
  | .slots => s.slotWords (Fin.ofNat 64 index)

/-- The entries of a READ, from the index upward, all as they stand at the one event (R176). -/
def State.readEntries (s : State) (sp : Space) (index count : Nat) : List Word :=
  (List.range count).flatMap (fun k => s.entry sp (index + k))

/-- A READ changes no state of the part (R176). -/
def State.runRead (s : State) : Request → Answer
  | .read sp index count => ⟨s, .done, s.readEntries sp index count⟩
  | .write _ _ _ _ | .command _ _ => s.accept

/-! ### WRITE -/

/-- Entries written from an index upward, in index order, with the indication that a field was clamped (R101, R178). -/
def writeEach (store : State → Nat → List Word → State × Bool) (size index : Nat) (entries : List Word) :
    Nat → State → State × Bool
  | 0, s => (s, false)
  | count + 1, s =>
    let before := writeEach store size index entries count s
    let now := store before.1 (index + count) (entryWords size count entries)
    (now.1, before.2 || now.2)

/-- The answer to an executed WRITE: CLAMPED if any field was clamped, else DONE (R178). -/
def writeAnswer (r : State × Bool) : Answer := ⟨r.1, if r.2 then .clamped else .done, []⟩

/-- One GENERAL entry written. -/
def State.storeGeneral (s : State) (_ : Nat) (e : List Word) : State × Bool :=
  ({ s with general := (generalOf e).value }, (generalOf e).changed)

/-- One LINKS entry written: the time offset (R177). -/
def State.storeOffset (s : State) (index : Nat) (e : List Word) : State × Bool :=
  ({ s with offsets := s.offsets.set (Fin.ofNat 24 index) (offsetOf e).value }, (offsetOf e).changed)

/-- One CLASSES entry written. -/
def State.storeClass (s : State) (index : Nat) (e : List Word) : State × Bool :=
  ({ s with classes := s.classes.set (Fin.ofNat 8 index) (classOf e).value }, (classOf e).changed)

/-- One WINDOWS entry written (R101). -/
def State.storeWindow (s : State) (index : Nat) (e : List Word) : State × Bool :=
  ({ s with windows := s.windows.set (Fin.ofNat 64 index) (windowOf e).value }, (windowOf e).changed)

/-- One ROWS entry written: the pad count (R97, R101). -/
def State.storeRow (s : State) (index : Nat) (e : List Word) : State × Bool :=
  ({ s with rows := s.rows.set (Fin.ofNat 48 index) (rowCountOf e).value }, (rowCountOf e).changed)

/-- One PADS entry written. -/
def State.storePad (s : State) (index : Nat) (e : List Word) : State × Bool :=
  ({ s with pads := Memory.write Pad.cold s.pads index (padOf e).value }, (padOf e).changed)

/-- The tables that SETUP and READY may write: LINKS, CLASSES and PADS (R177). -/
def State.tablesWritable (s : State) : Bool := s.runState == .setup || s.runState == .ready

/-- A WRITE of the WRITE row: LINKS, CLASSES or PADS, refused with BAD_STATE outside SETUP and READY (R177, R178). A
read-only space has been refused before this (R175). -/
def State.runWrite (s : State) : Request → Answer
  | .write sp index count entries =>
    if !s.tablesWritable then s.refuse .badState
    else match sp with
      | .links => writeAnswer (writeEach State.storeOffset 1 index entries count s)
      | .classes => writeAnswer (writeEach State.storeClass 13 index entries count s)
      | .pads => writeAnswer (writeEach State.storePad 4 index entries count s)
      | .general | .windows | .rows | .pedestal | .counters | .status | .slots => s.refuse .readOnly
  | .read _ _ _ | .command _ _ => s.accept

/-- A WRITE to GENERAL: LOCKED for a changed segment id under the lock, BAD_STATE in RUNNING or DRAINING, else executed
(R177). -/
def State.runWriteGeneral (s : State) : Request → Answer
  | .write _ index count entries =>
    if s.locked ∧ (generalOf entries).value.segment ≠ s.general.segment then s.refuse .locked
    else if !s.tablesWritable then s.refuse .badState
    else writeAnswer (writeEach State.storeGeneral 8 index entries count s)
  | .read _ _ _ | .command _ _ => s.accept

/-- A WRITE to WINDOWS: taken in SETUP, refused LOCKED elsewhere (R101, R106). -/
def State.runWriteWindows (s : State) : Request → Answer
  | .write _ index count entries =>
    if s.runState ≠ .setup then s.refuse .locked
    else writeAnswer (writeEach State.storeWindow 6 index entries count s)
  | .read _ _ _ | .command _ _ => s.accept

/-- A WRITE to ROWS: taken in SETUP, refused LOCKED elsewhere (R101, R106). -/
def State.runWriteRows (s : State) : Request → Answer
  | .write _ index count entries =>
    if s.runState ≠ .setup then s.refuse .locked
    else writeAnswer (writeEach State.storeRow 1 index entries count s)
  | .read _ _ _ | .command _ _ => s.accept

/-- READ. -/
def execRead (s : State) : Host.Outcome State Fault Refusal := .next (s.take .read State.runRead)

/-- WRITE. -/
def execWrite (s : State) : Host.Outcome State Fault Refusal := .next (s.take .write State.runWrite)

/-- WRITE_GENERAL. -/
def execWriteGeneral (s : State) : Host.Outcome State Fault Refusal :=
  .next (s.take .writeGeneral State.runWriteGeneral)

/-- WRITE_WINDOWS. -/
def execWriteWindows (s : State) : Host.Outcome State Fault Refusal :=
  .next (s.take .writeWindows State.runWriteWindows)

/-- WRITE_ROWS. -/
def execWriteRows (s : State) : Host.Outcome State Fault Refusal := .next (s.take .writeRows State.runWriteRows)

end Sys2Proof.Machine
end

