-- ==== Sys2Proof/Machine/RunControl.lean ====
section
/-! DEFINITION. Run control's commands and the run state machine: Setup done, Start, Stop and the drain, Flush, the
resets, Clear counters and Clear errors, barring, and the pedestal commands (R28, R39, R42, R56, R73, R90, R91, R95,
R107, R133, R145, R147 to R156, R170, R173, R181 to R190). -/

namespace Sys2Proof.Machine

/-! ### Setup done, Start, Stop and the drain -/

/-- Setup done (R182): in SETUP the five checks are made, and on success the lock is taken and the run state becomes
READY. -/
def State.runSetupDone (s : State) (_ : Request) : Answer :=
  if s.runState ≠ .setup then s.refuse .badState
  else match setupFailure s with
    | some (space, index) => ⟨s, .badSetup, [toWord space, toWord index]⟩
    | none => { s with runState := .ready, locked := true }.evalTiming.accept

/-- Start (R183). -/
def State.runStart (s : State) (_ : Request) : Answer :=
  if s.runState ≠ .ready then s.refuse .badState
  else { s with runState := .running, newestTag := none, pendingSkipped := 0 }.evalTiming.accept

/-- The drain condition (R184). -/
def State.drained (s : State) : Bool :=
  s.fill == 0 && s.job.isNone && s.adoption.isEmpty && s.emitter.frame == .none

/-- Drain completion: every orphan entry is dropped as stray, and the run state becomes READY (R53, R184). -/
def State.completeDrain (s : State) : State :=
  { s.dropOrphans (fun _ => true) with runState := .ready }.evalTiming

/-- The drain condition tested in DRAINING (R184). -/
def State.testDrain (s : State) : State :=
  if s.runState = .draining ∧ s.drained then s.completeDrain else s

/-- Stop (R184): DRAINING, and drain completion at once if its four parts already hold. -/
def State.runStop (s : State) (_ : Request) : Answer :=
  if s.runState ≠ .running then s.refuse .badState
  else { s with runState := .draining }.evalTiming.testDrain.accept

/-! ### Flush -/

/-- Flush at one slot: an OPEN or EXTENDED slot closes with cause FLUSH (R39). -/
def State.flushSlot (s : State) (i : SlotNo) : State :=
  if (s.slots.get i).isOpen then s.closeSlot i .flush else s

/-- Flush (R39). -/
def State.runFlush (s : State) (_ : Request) : Answer :=
  if s.runState = .setup ∨ s.runState = .ready then s.refuse .badState
  else ((indices 64).foldl (fun (t : State) (i : SlotNo) => t.flushSlot i) s).accept

/-! ### The resets -/

/-- The frame state after a warm reset: RECEIVING becomes DISCARDING without count (R73, R95). The END of a trigger message in
progress then ends the discard, and "trigger outside run" does not rise: R73's table gives the first, its last line and R69
can be read as the second (DESIGN CHOICE, log entry 23). -/
def Receiver.warm (r : Receiver) : Receiver :=
  if r.frame = .receiving then { r with frame := .discarding, words := [], crc := crcStart, stall := none } else r

/-- A front link after a warm reset (R92, R95). -/
def FrontLink.warm (f : FrontLink) : FrontLink :=
  { rx := f.rx.warm, waiting := [], held := none, flow := .go,
    due := if f.flow = .hold then .changed else f.due,
    notice := if f.notice = .pending then .delivered else f.notice }

/-- A front link at a warm reset: its FIFO is emptied, and GO is due if its flow state was HOLD (R95). -/
def State.warmLink (s : State) (n : LinkNo) : State := s.setFront n (s.front.get n).warm

/-- The event frame in progress at a warm reset is ended with CUT, also between its CRC word and its END (DESIGN CHOICE, log entry 25); a
reply frame goes on (R170). -/
def State.warmEmitter (s : State) : State :=
  match s.emitter.frame with
  | .event => ({ s with emitter := Emitter.idle }.emit .uplink .cut).bump (.part .eventFramesCut)
  | .none | .reply => s

/-- The blocks that both resets empty (R28, R42, R56, R67, R68, R133, R145), with the run state a warm reset enters
(R189). -/
def State.emptied (s : State) : State :=
  { s with
    runState := if s.locked then .ready else .setup
    newestTag := none
    pendingSkipped := 0
    slots := Bank.fill 64 Slot.empty
    put := 0
    get := 0
    fill := 0
    deadlines := Bank.fill 64 Deadline.empty
    orphans := []
    adoption := []
    job := none
    rotation := 24
    freeQueue := allCells }

/-- The warm reset event (R189): the flow state of the timing link follows the run state (R70, R73). -/
def State.warmReset (s : State) : State :=
  ((indices 24).foldl (fun (t : State) (n : LinkNo) => t.warmLink n)
    { s.warmEmitter.emptied with timing := s.timing.warm }).evalTiming

/-- Warm reset, whose reply is appended once the reset has taken effect (R170, R174, R189). -/
def State.runWarmReset (s : State) (_ : Request) : Answer := s.warmReset.accept

/-- The machine after a cold reset (R188): every block at its cold reset values. The store's words are not cleared (R145);
the record of what was sent and the queue of waiting commands are the model's own and stay (DESIGN CHOICE, log entry 6). -/
def State.coldReset (s : State) : State :=
  { State.reset with store := s.store, out := s.out, pending := s.pending }

/-! ### Clear counters and Clear errors -/

/-- Clear counters (R144, R186). -/
def State.runClearCounters (s : State) (_ : Request) : Answer :=
  if s.runState = .running ∨ s.runState = .draining then s.refuse .badState
  else { s with counters := [], lowMark := s.freeCount }.accept

/-- Clear errors (R187). -/
def State.runClearErrors (s : State) (_ : Request) : Answer := { s with errors := 0 }.accept

/-! ### Barring -/

/-- The link a Bar link or Unbar link names; the checks before execution keep it below 24 (R175). -/
def Request.linkNo : Request → LinkNo
  | .command _ argument => Fin.ofNat 24 argument.toNat
  | .read _ _ _ | .write _ _ _ _ => 0

/-- The receiver of a link that is barred: BARRED, OUTSIDE, without a frame in progress (R90). -/
def Receiver.barred (r : Receiver) : Receiver :=
  { r with link := .barred, frame := .outside, words := [], crc := crcStart, stall := none, codeErrors := 0 }

/-- Bar link on a link that is not BARRED: the four effects of R90, in order. -/
def State.barLink (s : State) (n : LinkNo) : State :=
  let f := s.front.get n
  let t := (s.setFront n { f with rx := f.rx.barred, waiting := [], notice := .delivered }).bumpBy
    (.link .discardedByBar n) f.waiting.length
  let u := if f.notice = .delivered then t else t.lossNotice n
  u.evalFront n

/-- Bar link (R90). -/
def State.runBarLink (s : State) (r : Request) : Answer :=
  if (s.front.get r.linkNo).rx.link = .barred then s.accept else (s.barLink r.linkNo).accept

/-- Unbar link on a BARRED link: DARK, OUTSIDE (R91). -/
def State.unbarLink (s : State) (n : LinkNo) : State :=
  s.setFront n { s.front.get n with rx := { (s.front.get n).rx with link := .dark, frame := .outside } }

/-- Unbar link (R91). -/
def State.runUnbarLink (s : State) (r : Request) : Answer :=
  if (s.front.get r.linkNo).rx.link = .barred then (s.unbarLink r.linkNo).accept else s.accept

/-! ### The pedestal commands -/

/-- Pedestal start (R147, R148). -/
def State.runPedestalStart (s : State) (_ : Request) : Answer :=
  if s.runState = .setup ∨ s.runState = .draining then s.refuse .badState
  else { s with acc := [], accState := .accumulating }.accept

/-- Pedestal stop (R147, R149). -/
def State.runPedestalStop (s : State) (_ : Request) : Answer :=
  if s.accState ≠ .accumulating then s.refuse .badState else { s with accState := .held }.accept

/-- The entries that adoption updates: those whose count is above 0 (R153). -/
def State.adoptable (s : State) : List (Nat × AccEntry) := s.acc.filter (fun e => decide (e.2.count > 0))

/-- One pad's pedestal replaced; its gain, threshold and mode stay (R154). -/
def adoptPad (pads : Memory Pad) (e : Nat × AccEntry) : Memory Pad :=
  Memory.write Pad.cold pads e.1 { Memory.read Pad.cold pads e.1 with pedestal := e.2.pedestal }

/-- Pedestal adopt (R147, R153, R154). -/
def State.runPedestalAdopt (s : State) (_ : Request) : Answer :=
  if s.runState = .running ∨ s.runState = .draining ∨ s.accState ≠ .held then s.refuse .badState
  else ⟨{ s with pads := s.adoptable.foldl adoptPad s.pads }, .done, [toWord s.adoptable.length]⟩

/-- A request of an undefined kind or verb is refused before execution, so nothing runs (R175). -/
def State.runUndefined (s : State) (_ : Request) : Answer := s.refuse .badSpace

/-! ### The rows -/

/-- COLD_RESET. -/
def execColdReset (s : State) : Host.Outcome State Fault Refusal := .next s.coldReset

/-- DRAIN_COMPLETION. -/
def execDrainCompletion (s : State) : Host.Outcome State Fault Refusal := .next s.testDrain

/-- SETUP_DONE. -/
def execSetupDone (s : State) : Host.Outcome State Fault Refusal :=
  .next (s.take (.command .setupDone) State.runSetupDone)

/-- START. -/
def execStart (s : State) : Host.Outcome State Fault Refusal := .next (s.take (.command .start) State.runStart)

/-- STOP. -/
def execStop (s : State) : Host.Outcome State Fault Refusal := .next (s.take (.command .stop) State.runStop)

/-- FLUSH. -/
def execFlush (s : State) : Host.Outcome State Fault Refusal := .next (s.take (.command .flush) State.runFlush)

/-- WARM_RESET. -/
def execWarmReset (s : State) : Host.Outcome State Fault Refusal :=
  .next (s.take (.command .warmReset) State.runWarmReset)

/-- CLEAR_COUNTERS. -/
def execClearCounters (s : State) : Host.Outcome State Fault Refusal :=
  .next (s.take (.command .clearCounters) State.runClearCounters)

/-- CLEAR_ERRORS. -/
def execClearErrors (s : State) : Host.Outcome State Fault Refusal :=
  .next (s.take (.command .clearErrors) State.runClearErrors)

/-- BAR_LINK. -/
def execBarLink (s : State) : Host.Outcome State Fault Refusal :=
  .next (s.take (.command .barLink) State.runBarLink)

/-- UNBAR_LINK. -/
def execUnbarLink (s : State) : Host.Outcome State Fault Refusal :=
  .next (s.take (.command .unbarLink) State.runUnbarLink)

/-- PEDESTAL_START. -/
def execPedestalStart (s : State) : Host.Outcome State Fault Refusal :=
  .next (s.take (.command .pedestalStart) State.runPedestalStart)

/-- PEDESTAL_STOP. -/
def execPedestalStop (s : State) : Host.Outcome State Fault Refusal :=
  .next (s.take (.command .pedestalStop) State.runPedestalStop)

/-- PEDESTAL_ADOPT. -/
def execPedestalAdopt (s : State) : Host.Outcome State Fault Refusal :=
  .next (s.take (.command .pedestalAdopt) State.runPedestalAdopt)

/-- UNDEFINED_REQUEST. -/
def execUndefinedRequest (s : State) : Host.Outcome State Fault Refusal :=
  .next (s.take .undefined State.runUndefined)

end Sys2Proof.Machine
end

