-- ==== Sys2Proof/Machine/Dispatch.lean ====
section
/-! DEFINITION. The meaning of every command. -/

namespace Sys2Proof.Machine

def exec (i : Instr) (s : State) : Host.Outcome State Fault Refusal :=
  match i with
  | .coldReset => Sys2Proof.Machine.execColdReset s
  | .symbolLock l => Sys2Proof.Machine.execSymbolLock l s
  | .linkIdle l => Sys2Proof.Machine.execLinkIdle l s
  | .linkStart l => Sys2Proof.Machine.execLinkStart l s
  | .linkDataWord l w => Sys2Proof.Machine.execLinkDataWord l w s
  | .linkEnd l => Sys2Proof.Machine.execLinkEnd l s
  | .linkCut l => Sys2Proof.Machine.execLinkCut l s
  | .linkCodeError l => Sys2Proof.Machine.execLinkCodeError l s
  | .farmFlowSymbol f => Sys2Proof.Machine.execFarmFlowSymbol f s
  | .frontStallExpiry n => Sys2Proof.Machine.execFrontStallExpiry n s
  | .timingStallExpiry => Sys2Proof.Machine.execTimingStallExpiry s
  | .requestStallExpiry => Sys2Proof.Machine.execRequestStallExpiry s
  | .arbiterGrant b => Sys2Proof.Machine.execArbiterGrant b s
  | .burstProcessing => Sys2Proof.Machine.execBurstProcessing s
  | .conditioningJobEnd => Sys2Proof.Machine.execConditioningJobEnd s
  | .parkJobEnd => Sys2Proof.Machine.execParkJobEnd s
  | .firstExpiry k => Sys2Proof.Machine.execFirstExpiry k s
  | .secondExpiry k => Sys2Proof.Machine.execSecondExpiry k s
  | .orphanExpiry => Sys2Proof.Machine.execOrphanExpiry s
  | .eventFrameStart => Sys2Proof.Machine.execEventFrameStart s
  | .eventFrameWordSent => Sys2Proof.Machine.execEventFrameWordSent s
  | .eventFrameEnd => Sys2Proof.Machine.execEventFrameEnd s
  | .replyFrameStart => Sys2Proof.Machine.execReplyFrameStart s
  | .replyFrameEnd => Sys2Proof.Machine.execReplyFrameEnd s
  | .drainCompletion => Sys2Proof.Machine.execDrainCompletion s
  | .read => Sys2Proof.Machine.execRead s
  | .write => Sys2Proof.Machine.execWrite s
  | .writeGeneral => Sys2Proof.Machine.execWriteGeneral s
  | .writeWindows => Sys2Proof.Machine.execWriteWindows s
  | .writeRows => Sys2Proof.Machine.execWriteRows s
  | .setupDone => Sys2Proof.Machine.execSetupDone s
  | .start => Sys2Proof.Machine.execStart s
  | .stop => Sys2Proof.Machine.execStop s
  | .flush => Sys2Proof.Machine.execFlush s
  | .warmReset => Sys2Proof.Machine.execWarmReset s
  | .clearCounters => Sys2Proof.Machine.execClearCounters s
  | .clearErrors => Sys2Proof.Machine.execClearErrors s
  | .barLink => Sys2Proof.Machine.execBarLink s
  | .unbarLink => Sys2Proof.Machine.execUnbarLink s
  | .pedestalStart => Sys2Proof.Machine.execPedestalStart s
  | .pedestalStop => Sys2Proof.Machine.execPedestalStop s
  | .pedestalAdopt => Sys2Proof.Machine.execPedestalAdopt s
  | .undefinedRequest => Sys2Proof.Machine.execUndefinedRequest s
  | .inboundFlowSymbol l f => Sys2Proof.Machine.execInboundFlowSymbol l f s

end Sys2Proof.Machine
end

