-- ==== Sys2Proof/Machine/Time.lean ====
section
/-! DEFINITION. The timebase: what a microsecond that ends brings about (R29). DESIGN CHOICE, log entry 1: the table of commands
has no row for it, so it is what step does when no command waits. -/

namespace Sys2Proof.Machine

/-- The deadline expiries of this reading that have not been taken yet (R29, R32, R34). A first expiry that extends a slot
leaves a second one that is due later. -/
def State.takeDeadlines (s : State) : State :=
  (indices 64).foldl (fun (t : State) (i : SlotNo) => (t.firstExpiry i).secondExpiry i) s

/-- The orphan expiries of this reading, oldest first; `n` bounds their number (R48). -/
def State.takeOrphans : Nat → State → State
  | 0, s => s
  | n + 1, s => State.takeOrphans n s.orphanExpiry

/-- The stall expiries of this reading (R58, R85, R165). The order of expiries at one reading: DESIGN CHOICE, log entry 1. -/
def State.takeStalls (s : State) : State :=
  (((indices 24).foldl (fun (t : State) (n : LinkNo) => t.stallOut (.front n)) s).stallOut .timing).stallOut .uplink

/-- Every expiry whose reading this is, and which no command has taken, is taken before the reading passes (R29). -/
def State.takeDue (s : State) : State := (State.takeOrphans s.orphans.length s.takeDeadlines).takeStalls

/-- A word boundary passes on every return lane: no word time is longer than a microsecond (DESIGN CHOICE, log entry 4). -/
def State.takeBoundaries (s : State) : State := returnLanes.foldl State.wordBoundary s

/-- A microsecond ends: what is due is taken, a word boundary passes on every return lane, and the timebase rises by one,
wrapping (R29). -/
def State.tick (s : State) : State :=
  let t := s.takeDue.takeBoundaries
  { t with timebase := t.timebase + 1 }

end Sys2Proof.Machine
end

