-- ==== Sys2Proof/Machine/LineCode.lean ====
section
/-! DEFINITION. The 18-bit code groups of a lane, and the command each arriving group is (R74, R192). -/

namespace Sys2Proof.Machine

/-- A code of a lane (R74). -/
inductive Code where
  | data (w : Word)
  | idle
  | start
  | endCode
  | cut
  | flow (f : Flow)
  | error
  deriving DecidableEq, Repr

/-- The payload of each symbol (R192). -/
def symbolOf (payload : Word) : Code :=
  if payload = 0xC3C3 then .idle
  else if payload = 0xF00F then .start
  else if payload = 0x0FF0 then .endCode
  else if payload = 0x3CC3 then .cut
  else if payload = 0x9696 then .flow .hold
  else if payload = 0x6969 then .flow .go
  else .error

/-- The code of an 18-bit group: the two bits sent first are bits 17 and 16, the payload bits 15 to 0 (R192). -/
def decodeGroup (g : BitVec 18) : Code :=
  if g.toNat / 65536 = 2 then .data (BitVec.ofNat 16 g.toNat)
  else if g.toNat / 65536 = 1 then symbolOf (BitVec.ofNat 16 g.toNat)
  else .error

/-- The group a transmitter sends for a valid code; a code error is never sent (R192). -/
def encodeGroup : Code → Option (BitVec 18)
  | .data w => some (BitVec.ofNat 18 (2 * 65536 + w.toNat))
  | .idle => some 0x1C3C3
  | .start => some 0x1F00F
  | .endCode => some 0x10FF0
  | .cut => some 0x13CC3
  | .flow .hold => some 0x19696
  | .flow .go => some 0x16969
  | .error => none

/-- The command that the arrival of a code on a lane is. -/
def arrival (lane : Lane) : Code → Instr
  | .data w => .linkDataWord lane w
  | .idle => .linkIdle lane
  | .start => .linkStart lane
  | .endCode => .linkEnd lane
  | .cut => .linkCut lane
  | .flow f => match lane with
    | .uplink => .farmFlowSymbol f
    | .front n => .inboundFlowSymbol (.front n) f
    | .timing => .inboundFlowSymbol .timing f
  | .error => .linkCodeError lane

end Sys2Proof.Machine
end

