-- ==== Sys2Proof/Safety.lean ====
section
/-! DEFINITION. What a sound state of the part is: the laws the manual states of every state, as predicates the
statements use. Each holds at reset; that every step keeps them is stated in the obligations. -/

namespace Sys2Proof.Safety

open Sys2Proof.Machine

/-! ### Run control -/

/-- The setup lock is held in every run state except SETUP (R106), the timing flow state is HOLD whenever the run state
is not RUNNING (R70), no request is in execution between steps (R174), and the accumulator has left IDLE only under
the lock (R147). -/
def RunControlSound (s : State) : Prop :=
  (s.locked = true ↔ s.runState ≠ .setup) ∧ (s.runState ≠ .running → s.timingFlow = .hold)
    ∧ s.executing = false ∧ (s.accState ≠ .idle → s.locked = true)

/-- A park job is in progress. -/
def parking (s : State) : Bool :=
  match s.job with
  | none => false
  | some j => j.outcome == .park

/-- The queues keep within their capacities: requests and replies 4 each (R166, R167), and the orphan list 16, with room
for the copy of a park job in progress (R45, R47). -/
def QueuesBounded (s : State) : Prop :=
  s.requests.length ≤ Config.requestCapacity ∧ s.replies.length ≤ Config.replyCapacity
    ∧ s.orphans.length + (if parking s then 1 else 0) ≤ Config.orphanCapacity

/-- The four sparse memories keep their canonical form. -/
def MemoriesCanonical (s : State) : Prop :=
  Memory.wf 0 s.counters = true ∧ Memory.wf Pad.cold s.pads = true ∧ Memory.wf 0 s.store = true
    ∧ Memory.wf AccEntry.cold s.acc = true

/-- No counter is above 4,294,967,295 (R180). -/
def CountersBounded (s : State) : Prop := ∀ k, Memory.read 0 s.counters k ≤ Config.counterMax

/-- Every stored count and sum lies in its range: an accumulator entry has at most 65,535 samples, each of at most 1,022 (R146, R150,
R151); a slot's late and duplicate counts are at most 255 (R12, R13); its skipped-before and the pending skipped count are at
most 65,535 (R68). -/
def CountsInRange (s : State) : Prop :=
  (∀ k, (Memory.read AccEntry.cold s.acc k).count ≤ 65535
      ∧ (Memory.read AccEntry.cold s.acc k).sum ≤ 1022 * (Memory.read AccEntry.cold s.acc k).count)
    ∧ (∀ i, (s.slots.get i).late ≤ 255 ∧ (s.slots.get i).duplicate ≤ 255 ∧ (s.slots.get i).skippedBefore ≤ 65535)
    ∧ s.pendingSkipped ≤ 65535

/-! ### Deadlines -/

/-- The stage that belongs to a slot state (R30). -/
def stageOf : SlotState → Stage
  | .opened => .first
  | .extended => .second
  | .free | .closing | .closed | .emitting => .none

/-- A deadline is pending exactly when its slot is OPEN or EXTENDED, stage FIRST with OPEN and SECOND with EXTENDED
(R30). -/
def DeadlinesMatch (s : State) : Prop :=
  ∀ i : SlotNo, (s.deadlines.get i).stage = stageOf (s.slots.get i).state

/-! ### The ring -/

/-- The slot `k` places after get, in ring order (R1). -/
def ringSlot (s : State) (k : Fin 64) : Slot := s.slots.get (s.get + k)

/-- The ring law (R1): fill is at most 64, the non-FREE slots are those from get on, as many as fill, and put follows the
last of them. Beside it stand what keeps it: an event frame is in progress exactly when the slot at get is EMITTING,
no other slot is, and no admission level is above 64 (R25, R64). -/
def RingSound (s : State) : Prop :=
  s.fill ≤ 64 ∧ (∀ k : Fin 64, (ringSlot s k).state ≠ .free ↔ k.val < s.fill)
    ∧ s.put = s.get + Fin.ofNat 64 s.fill
    ∧ (s.emitter.frame = .event ↔ (s.slots.get s.get).state = .emitting)
    ∧ (∀ i : SlotNo, (s.slots.get i).state = .emitting → i = s.get)
    ∧ (∀ c : ClassNo, (s.classes.get c).admission ≤ 64)

/-! ### Contributions, the job and the adoption queue -/

/-- A slot that has closed (R3). -/
def hasClosed (x : Slot) : Bool := x.state == .closing || x.state == .closed || x.state == .emitting

/-- What a slot's own fields say of one another (R3, R5, R18, R19, R22). -/
def SlotSound (x : Slot) : Prop :=
  (x.cause ≠ .none ↔ hasClosed x = true) ∧ (x.status ≠ .none ↔ hasClosed x = true)
    ∧ (x.cause = .flush ↔ x.status = .flushed)
    ∧ (hasClosed x = true → ∀ n, x.contribs.get n ≠ some .awaited)
    ∧ (x.isOpen = true → ∀ n, x.contribs.get n ≠ some .missing)
    ∧ (x.state = .closed ∨ x.state = .emitting → x.busy = false)
    ∧ (x.status = .complete → ∀ n, x.contribs.get n = none ∨ x.contribs.get n = some .arrived)
    ∧ (x.state = .free → x = Slot.empty)
    ∧ (∀ n, x.contribs.get n ≠ some .conditioning ∨ x.extras.get n ≠ some .conditioning)
    ∧ (∀ n, (x.records.get n).isSome ↔ x.contribs.get n = some .arrived ∨ x.extras.get n = some .recorded)

/-- Whether the job in progress conditions a link's fragment for a slot (R113). -/
def conditions (s : State) (i : SlotNo) (n : LinkNo) : Bool :=
  match s.job with
  | none => false
  | some j => j.outcome == .condition i && j.link == n

/-- How many expected entries of the adoption queue wait for a link of a slot (R50). -/
def expectedEntries (s : State) (i : SlotNo) (n : LinkNo) : Nat :=
  s.adoption.countP (fun e => e.expected && e.slot == i && e.link == n)

/-- A link's held frame is the source of the job in progress, and of no other (R86, R87); a park job reads its fragment from
the FIFO (R113). -/
def JobSound (s : State) : Prop :=
  (∀ n, (s.front.get n).held ≠ none ↔ ∃ j, s.job = some j ∧ j.source = .fifo ∧ j.link = n)
    ∧ ∀ j, s.job = some j → j.outcome = .park → j.source = .fifo

/-- Every slot is sound, a CONDITIONING contribution or extra is the job in progress and nothing else (R6), a QUEUED
contribution is one expected entry of the adoption queue (R5, R50), and an expected entry's slot carries its tag
(R50). -/
def AssemblySound (s : State) : Prop :=
  (∀ i, SlotSound (s.slots.get i))
    ∧ (∀ i n, ((s.slots.get i).contribs.get n = some .conditioning ∨ (s.slots.get i).extras.get n = some .conditioning)
        ↔ conditions s i n = true)
    ∧ (∀ i n, expectedEntries s i n = if (s.slots.get i).contribs.get n = some .queued then 1 else 0)
    ∧ (∀ e ∈ s.adoption, e.expected = true → (s.slots.get e.slot).tag = e.tag)

/-- In every slot that is not FREE a link has a contribution exactly when the expected set of the slot's class has the link (R5). -/
def ContributionsMatch (s : State) : Prop :=
  ∀ i n, (s.slots.get i).state ≠ .free →
    ((s.slots.get i).contribs.get n ≠ none ↔ (s.classes.get (s.slots.get i).cls).expected.getLsbD n.val = true)

/-- No two non-FREE slots carry the same tag, and no orphan entry carries the tag of a non-FREE slot (R7). -/
def TagsDistinct (s : State) : Prop :=
  (∀ i j, (s.slots.get i).state ≠ .free → (s.slots.get j).state ≠ .free →
      (s.slots.get i).tag = (s.slots.get j).tag → i = j)
    ∧ (∀ o ∈ s.orphans, ∀ i, (s.slots.get i).state ≠ .free → (s.slots.get i).tag ≠ o.tag)

/-! ### Cells -/

/-- The cells of the job in progress: those it has taken, and the raw copy it reads (R134). -/
def jobCells (s : State) : List Nat :=
  match s.job with
  | none => []
  | some j => j.cells ++ match j.source with
    | .fifo => []
    | .copy cells _ => cells

/-- The cells of every owner: the slots' records, the orphan list, the adoption queue and the job (R134). -/
def ownedCells (s : State) : List Nat :=
  (indices 64).flatMap (fun i => (s.slots.get i).cells) ++ s.orphans.flatMap Orphan.cells
    ++ s.adoption.flatMap Adopted.cells ++ jobCells s

/-- The conservation of cells (R134, R142): the free cells and the owned cells are together the 8,192 cells, each once. -/
def CellsConserved (s : State) : Prop := (s.freeQueue ++ ownedCells s).Perm allCells

/-- A chain of `w` words has ⌈w / 64⌉ cells (R45, R127). -/
def chainFits (cells : List Nat) (w : Nat) : Prop := cells.length = (w + 63) / 64

/-- Every chain has the cells its words need: the job's, its source's, the orphans', the adopted copies', and those of the
records of slots whose frame is not being sent (R45, R50, R127, R141). -/
def ChainsSound (s : State) : Prop :=
  (∀ j, s.job = some j → chainFits j.cells j.wordCount ∧ ∀ cells w, j.source = .copy cells w → chainFits cells w)
    ∧ (∀ o ∈ s.orphans, chainFits o.cells o.wordCount) ∧ (∀ e ∈ s.adoption, chainFits e.cells e.wordCount)
    ∧ ∀ i n r, (s.slots.get i).state ≠ .emitting → (s.slots.get i).records.get n = some r →
        chainFits r.cells r.wordCount

/-! ### Receivers and flow -/

/-- A receiver's own fields agree: frames only in LIVE, words and a stall timer only in RECEIVING, the running CRC that of
the words before the last, and counts below their limits (R76 to R78, R81, R85). -/
def ReceiverSound (r : Receiver) : Prop :=
  (r.link ≠ .live → r.frame = .outside) ∧ (r.frame ≠ .receiving → r.words = [] ∧ r.stall = none)
    ∧ r.crc = crcOf r.words.dropLast ∧ r.codeErrors < 4 ∧ (r.link = .aligning → r.idleCount < 64)

/-- A front link: its receiver is sound, its stall timer stands while it sends HOLD (R85), its FIFO holds at most 8,192
words, committed frames hold 4 to 4,096 words and the frame in progress at most 4,096 (R83, R86), and its loss notice
state is NONE in LIVE and PENDING only with waiting frames (R92). -/
def FrontSound (f : FrontLink) : Prop :=
  ReceiverSound f.rx ∧ (f.flow = .hold → f.rx.stall = none) ∧ f.occupancy ≤ 8192
    ∧ (∀ w ∈ f.waiting, 4 ≤ w.length ∧ w.length ≤ 4096) ∧ (∀ w, f.held = some w → 4 ≤ w.length ∧ w.length ≤ 4096)
    ∧ f.rx.words.length ≤ 4096 ∧ (f.rx.link = .live → f.notice = .none)
    ∧ (f.notice = .pending → f.waiting ≠ [])

/-- Every receiver is sound; BARRED is a front link state only (R76), and the timing link and the uplink hold at most 6 and
512 words of a frame (R58, R165). -/
def ReceiversSound (s : State) : Prop :=
  (∀ n, FrontSound (s.front.get n)) ∧ ReceiverSound s.timing ∧ ReceiverSound s.uplink
    ∧ s.timing.link ≠ .barred ∧ s.uplink.link ≠ .barred ∧ s.timing.words.length ≤ 6 ∧ s.uplink.words.length ≤ 512

/-- Every flow state is the one its table gives for the values as they stand (R70, R88). -/
def FlowSettled (s : State) : Prop :=
  timingDecision s.runState s.general s.fill s.freeCount s.timingFlow = s.timingFlow
    ∧ ∀ n, frontDecision (s.front.get n).occupancy (s.front.get n).flow = (s.front.get n).flow

/-- In SETUP and READY the table, the orphan list and the adoption queue are empty, no job is in progress and no event frame
is sent (R28, R45, R184). -/
def IdleOutsideRun (s : State) : Prop :=
  s.runState = .setup ∨ s.runState = .ready →
    s.fill = 0 ∧ s.orphans = [] ∧ s.adoption = [] ∧ s.job = none ∧ s.emitter.frame ≠ .event

/-! ### Settings -/

/-- Every stored class field lies in its range (R178). -/
def ClassInRange (c : ClassEntry) : Prop :=
  1 ≤ c.admission ∧ c.admission ≤ 64 ∧ 1 ≤ c.t1 ∧ c.t1 ≤ 16383 ∧ c.t2 ≤ 16383 ∧ c.stragglers ≤ 24
    ∧ 1 ≤ c.driftWindow ∧ c.driftWindow ≤ 1024 ∧ c.preSamples ≤ 3 ∧ c.postSamples ≤ 7 ∧ 1 ≤ c.minWidth
    ∧ c.minWidth ≤ 4 ∧ c.mergeGap ≤ 7 ∧ 1 ≤ c.cellLimit ∧ c.cellLimit ≤ 256

/-- Every stored general setting lies in its range (R178). -/
def GeneralInRange (g : General) : Prop :=
  g.segment ≤ 63 ∧ 1 ≤ g.lookAhead ∧ g.lookAhead ≤ 255 ∧ 1 ≤ g.parkTime ∧ g.parkTime ≤ 4095 ∧ 1 ≤ g.eventHold
    ∧ g.eventHold ≤ 64 ∧ g.eventRelease ≤ 63 ∧ g.cellHold ≤ 8192 ∧ g.cellResume ≤ 8192 ∧ 1 ≤ g.stallTimeout
    ∧ g.stallTimeout ≤ 1023

/-- A stored map window lies in its ranges (R101). -/
def WindowInRange (w : MapWindow) : Prop := w.firstChannel ≤ 127 ∧ 1 ≤ w.count ∧ w.count ≤ 128 ∧ w.firstPad ≤ 191

/-- A stored pad lies in its ranges (R178). -/
def PadInRange (p : Pad) : Prop := p.pedestal ≤ 4095 ∧ p.gain ≤ 511 ∧ p.threshold ≤ 1023

/-- Every stored setting lies in its range, so that every stored value is usable (R178, R182). -/
def SettingsInRange (s : State) : Prop :=
  GeneralInRange s.general ∧ (∀ c, ClassInRange (s.classes.get c))
    ∧ (∀ n, -64 ≤ s.offsets.get n ∧ s.offsets.get n ≤ 63) ∧ (∀ r, s.rows.get r ≤ 192)
    ∧ (∀ i, WindowInRange (s.windows.get i))
    ∧ ∀ k, PadInRange (Memory.read Pad.cold s.pads k)

end Sys2Proof.Safety
end

