-- ==== Sys2Proof/Certificates/Slice0/Obligations.lean ====
section
/-! DEFINITION. The statements for the provers. Each formalises rules of spec/, or says in its docstring that it rests on a
choice of the model and names the log entry. The helpers in Sys2Proof.Spec word the manual's own terms independently of
the machine. -/

namespace Sys2Proof.Spec

open Sys2Proof.Machine

/-- The reading `n` microseconds from now, modulo 4,294,967,296 (R29). -/
def inMicroseconds (s : State) (n : Nat) : Time := s.timebase + BitVec.ofNat 32 n

/-- No deadline, orphan entry or stall timer expires at this reading. -/
abbrev nothingDue (s : State) : Prop :=
  (∀ i, (s.deadlines.get i).stage = .none ∨ (s.deadlines.get i).expiry ≠ s.timebase)
    ∧ (∀ o ∈ s.orphans, o.parkTime + BitVec.ofNat 32 s.general.parkTime ≠ s.timebase)
    ∧ ∀ l, (s.rx l).frame = .receiving → (s.rx l).stall ≠ some s.timebase

/-- Every expiry there may be: each slot's deadlines, the orphan entries, and the stall timers. -/
def expiries (s : State) : List Instr :=
  (indices 64).flatMap (fun i => [.firstExpiry i, .secondExpiry i]) ++ List.replicate s.orphans.length .orphanExpiry
    ++ (indices 24).map .frontStallExpiry ++ [.timingStallExpiry, .requestStallExpiry]

/-- The state after several commands, each of which answers a next state. -/
def after : List Instr → State → State
  | [], s => s
  | c :: rest, s =>
    match exec c s with
    | .next t => after rest t
    | _ => s

/-! ### Links -/

/-- A word boundary of a lane: a return lane sends one symbol, that of its flow state as it stands, if a change or an entry to LIVE has
made one due, and a change to HOLD so sent is counted (R71, R89, R93), also on a link that is BARRED by then (log entry 24); on the
uplink nothing waits for a boundary. -/
def boundary (s : State) (l : Lane) : State :=
  match l with
  | .front n =>
    let f := s.front.get n
    let sent := { s with front := s.front.set n { f with due := .none }, out := s.out ++ [(l, .flow f.flow)] }
    if f.due = .none then s else if f.due = .changed ∧ f.flow = .hold then sent.bump (.link .holdSent n) else sent
  | .timing =>
    let sent := { s with timingDue := .none, out := s.out ++ [(l, .flow s.timingFlow)] }
    if s.timingDue = .none then s
    else if s.timingDue = .changed ∧ s.timingFlow = .hold then sent.bump (.part .timingHoldSent)
    else sent
  | .uplink => s

/-- A word boundary of every return lane. -/
def boundaries (s : State) : State := boundary ((indices 24).foldl (fun t n => boundary t (.front n)) s) .timing

/-- Any valid code sets the consecutive code error count to 0 (R77). -/
def cleared (s : State) (l : Lane) : State := s.setRx l { s.rx l with codeErrors := 0 }

/-- A START, data word, END, CUT or flow symbol that arrives on a lane. -/
def arrivesOn (l : Lane) (c : Instr) : Prop :=
  c = .linkStart l ∨ (∃ w, c = .linkDataWord l w) ∨ c = .linkEnd l ∨ c = .linkCut l
    ∨ (l ≠ .uplink ∧ ∃ f, c = .inboundFlowSymbol l f) ∨ (l = .uplink ∧ ∃ f, c = .farmFlowSymbol f)

/-- The stall timer started or restarted now: on a front link it runs only while the flow state is GO (R58, R85, R165). -/
def stallFromNow (s : State) (l : Lane) : Option Time :=
  match l with
  | .front n => if (s.front.get n).flow = .go then some (inMicroseconds s s.general.stallTimeout) else none
  | .timing | .uplink => some (inMicroseconds s s.general.stallTimeout)

/-- A new frame opens on a lane: RECEIVING, word count 0, CRC start value, stall timer started (R78). -/
def frameOpened (s : State) (l : Lane) : State :=
  s.setRx l
    { s.rx l with
      codeErrors := 0, frame := .receiving, words := [], crc := 0xFFFF, stall := stallFromNow s l }

/-- The receiver of a lane holds a frame in RECEIVING, with its running CRC in step (R78, R81). -/
abbrev receiving (s : State) (l : Lane) : Prop :=
  (s.rx l).link = .live ∧ (s.rx l).frame = .receiving ∧ (s.rx l).crc = crcOf (s.rx l).words.dropLast

/-- The last data word is not the CRC of the words before it (R81). -/
abbrev crcFails (words : List Word) : Prop := words.getLast? ≠ some (crcOf words.dropLast)

/-- The receiver of the timing link or the uplink once its frame is over and its words are gone. -/
def frameOver (r : Receiver) (next : FrameState) : Receiver :=
  { r with codeErrors := 0, frame := next, words := [], crc := 0xFFFF, stall := none }

/-- A word joins the frame in RECEIVING (R78, R81). -/
def joined (s : State) (l : Lane) (w : Word) : Receiver :=
  { s.rx l with
    codeErrors := 0, words := (s.rx l).words ++ [w], crc := crcOf (s.rx l).words, stall := stallFromNow s l }

/-- The frame in RECEIVING on a front link is given up: its words leave the FIFO, its timer stops, the frame state becomes `next`,
and the flow state is re-evaluated if words have left (R78, R83, R88). -/
def frameLeaves (s : State) (n : LinkNo) (next : FrameState) : State :=
  let f := s.front.get n
  let t := s.setFront n { f with rx := { f.rx with frame := next, words := [], crc := 0xFFFF, stall := none } }
  if f.rx.words = [] then t else t.evalFront n

/-- A front link frame is discarded with a counter and a cause. -/
def frontDiscard (s : State) (n : LinkNo) (next : FrameState) (k : LinkCounter) (e : ErrorCause) : State :=
  ((frameLeaves s n next).bump (.link k n)).addError e

/-! ### The fragment store -/

/-- Cells for `w` words, rounded up (R128). -/
def cellsOf (w : Nat) : Nat := (w + 63) / 64

/-- `k` cells leave the front of the free cell queue; the low mark falls to the free count where that is lower, and trigger
intake re-evaluates its flow state (R70, R138, R144). -/
def cellsTaken (s : State) (k : Nat) : State :=
  { s with freeQueue := s.freeQueue.drop k, lowMark := min s.lowMark (s.freeQueue.length - k) }.evalTiming

/-- Cells, if there are any, join the back of the free cell queue, and trigger intake re-evaluates its flow state (R70, R140). -/
def cellsBack (s : State) (cells : List Nat) : State :=
  if cells = [] then s else { s with freeQueue := s.freeQueue ++ cells }.evalTiming

/-- The store address of word `k` of a chain: 64 words to a cell, in chain order (R136). -/
def wordPlace (cells : List Nat) (k : Nat) : Nat := cells.getD (k / 64) 0 * 64 + k % 64

/-- The first `w` words of a chain (R137). -/
def chainWords (s : State) (cells : List Nat) (w : Nat) : List Word :=
  (List.range w).map (fun k => Memory.read 0 s.store (wordPlace cells k))

/-- Words written to a chain one after another, from word `start` on (R136). -/
def chainWritten (s : State) (cells : List Nat) (start : Nat) (words : List Word) : State :=
  { s with
    store := words.zipIdx.foldl (fun m p => Memory.write 0 m (wordPlace cells (start + p.2)) p.1) s.store }

/-! ### The event table -/

/-- Some contribution is QUEUED or CONDITIONING, or some extra is in conditioning (R18). -/
abbrev waits (x : Slot) : Prop :=
  ∃ n, x.contribs.get n = some .queued ∨ x.contribs.get n = some .conditioning
    ∨ x.extras.get n = some .conditioning

/-- A slot is OPEN or EXTENDED. -/
abbrev isOpen (x : Slot) : Prop := x.state = .opened ∨ x.state = .extended

/-- The contributions after a closure (R18). -/
def closedContribs (x : Slot) : Bank (Option Contribution) 24 :=
  Bank.build (fun n => if x.contribs.get n = some .awaited then some .missing else x.contribs.get n)

/-- How many contributions are AWAITED (R32). -/
def awaitedCount (x : Slot) : Nat :=
  ((indices 24).filter (fun n => decide (x.contribs.get n = some .awaited))).length

/-- A slot after its closure by a cause: the steps of R18 and the status of R19. -/
def closed (x : Slot) (cause : Cause) : Slot :=
  { x with
    contribs := closedContribs x
    cause := cause
    status :=
      if cause = .flush then .flushed
      else if ∀ n, x.contribs.get n = none ∨ x.contribs.get n = some .arrived then .complete
      else .partly
    state := if waits x then .closing else .closed }

/-- A closure: the slot closes, and its deadline is cancelled, its times kept (R18, R35). -/
def closes (s : State) (i : SlotNo) (cause : Cause) : State :=
  { s with
    slots := s.slots.set i (closed (s.slots.get i) cause)
    deadlines := s.deadlines.set i { s.deadlines.get i with stage := .none } }

/-- The ALL_IN condition (R20). -/
abbrev allIn (x : Slot) : Prop := (∀ n, x.contribs.get n ≠ some .awaited) ∧ ¬ waits x

/-- A slot carries a tag, and no other does (R7). -/
abbrev matching (s : State) (tag : Tag) (i : SlotNo) : Prop :=
  (s.slots.get i).state ≠ .free ∧ (s.slots.get i).tag = tag
    ∧ ∀ j, (s.slots.get j).state ≠ .free → (s.slots.get j).tag = tag → j = i

/-- No slot carries a tag (R9). -/
abbrev unmatched (s : State) (tag : Tag) : Prop := ∀ i, (s.slots.get i).state ≠ .free → (s.slots.get i).tag ≠ tag

/-- A late drop at a slot (R12). -/
def lateAt (s : State) (i : SlotNo) (n : LinkNo) : State :=
  ((s.setSlot i { s.slots.get i with late := min 255 ((s.slots.get i).late + 1) }).bump (.link .late n)).addError
    .fragmentLate

/-- A duplicate drop at a slot (R13). -/
def duplicateAt (s : State) (i : SlotNo) (n : LinkNo) : State :=
  ((s.setSlot i { s.slots.get i with duplicate := min 255 ((s.slots.get i).duplicate + 1) }).bump
    (.link .duplicate n)).addError .fragmentDuplicate

/-- A late drop against the link alone (R44, R50). -/
def lateAlone (s : State) (n : LinkNo) : State := (s.bump (.link .late n)).addError .fragmentLate

/-- A stray drop (R44). -/
def stray (s : State) (n : LinkNo) : State := (s.bump (.link .stray n)).addError .fragmentStray

/-- The adoption of an orphan entry by the OPEN or EXTENDED slot that carries its tag: as an expected entry for a link that is
AWAITED, LOST or ABSENT, as an extra candidate for a link outside the expected set, and else a duplicate (R49). -/
def adopts (i : SlotNo) (s : State) (o : Orphan) : State :=
  let x := s.slots.get i
  let c := x.contribs.get o.link
  let entry (expected : Bool) : Adopted :=
    { link := o.link, tag := o.tag, slot := i, expected := expected, cells := o.cells, wordCount := o.wordCount }
  if c = some .awaited ∨ c = some .lost ∨ c = some .absent then
    { s.setSlot i { x with contribs := x.contribs.set o.link (some .queued) } with
      adoption := s.adoption ++ [entry true] }.bump (.part .orphansAdopted)
  else if c = none then { s with adoption := s.adoption ++ [entry false] }.bump (.part .orphansAdopted)
  else cellsBack (duplicateAt s i o.link) o.cells

/-- The ALL_IN test of an OPEN or EXTENDED slot (R20). -/
def tested (s : State) (i : SlotNo) : State :=
  if isOpen (s.slots.get i) ∧ allIn (s.slots.get i) then closes s i .allIn else s

/-! ### The conditioning unit -/

/-- A requester requests (R86, R109). -/
abbrev requests (s : State) (r : Requester) : Prop :=
  (∃ n : LinkNo, r = n.castSucc ∧ (s.front.get n).waiting ≠ [] ∧ (s.front.get n).held = none)
    ∨ (r = 24 ∧ s.adoption ≠ [])

/-- An urgent front link (R110). -/
abbrev urgent (s : State) (r : Requester) : Prop := ∃ n : LinkNo, r = n.castSucc ∧ 6144 ≤ (s.front.get n).occupancy

/-- A requester's place in rotation order: 0 is the requester after the rotation position (R111). -/
def place (s : State) (r : Requester) : Nat := (r.val + 24 - s.rotation.val) % 25

/-- Whether any front link is urgent (R113). -/
def anyUrgent (s : State) : Bool := decide (∃ n, 6144 ≤ (s.front.get n).occupancy)

/-- The flags a job starts with (R51, R116). -/
def startFlags (flagsWord : Word) (adopted : Bool) : FragFlags :=
  { feOverflow := flagsWord.getLsbD 0, fePartial := flagsWord.getLsbD 1, malformed := false, truncated := false,
    storeFull := false, unmapped := false, clipped := false, adopted := adopted, extra := false }

/-- The job record of a conditioning job at its grant (R113). -/
def conditioningJob (s : State) (r : Requester) (n : LinkNo) (src : JobSource) (i : SlotNo) (tag : Tag)
    (flags : FragFlags) : Job :=
  { requester := r, link := n, source := src, outcome := .condition i, tag := tag, urgent := anyUrgent s, cells := [],
    pulseCount := 0, wordCount := 0, flags := flags, position := 3, stopped := false, skipCounted := false }

/-- The state in which a granted front frame meets its outcome: it is the frame held by the job (R87, R111). -/
def granted (s : State) (n : LinkNo) (frame : List Word) (rest : List (List Word)) : State :=
  { s with rotation := n.castSucc }.setFront n { s.front.get n with waiting := rest, held := some frame }

/-- The held frame of a link leaves the FIFO, and its flow state is re-evaluated (R87, R88). -/
def frameGone (s : State) (n : LinkNo) : State := (s.setFront n { s.front.get n with held := none }).evalFront n

/-- The premises of a grant of a front frame that delivers no loss notice (R92, R109, R111). -/
abbrev grants (s : State) (n : LinkNo) (frame : List Word) (rest : List (List Word)) : Prop :=
  s.job = none ∧ s.chosen = some n.castSucc ∧ (s.front.get n).waiting = frame :: rest
    ∧ ((s.front.get n).notice ≠ .pending ∨ (s.front.get n).rx.link = .live ∨ rest ≠ [])

/-- The sample count of the burst at the front of the remaining words (R117). -/
def burstCount (ws : List Word) : Nat := (ws.getD 2 0).toNat % 512

/-- The burst at the front of the remaining words is malformed (R118). -/
abbrev malformed (ws : List Word) : Prop :=
  ws.length < 3 ∨ (ws.getD 0 0).toNat > 127 ∨ burstCount ws = 0 ∨ ws.length - 3 < burstCount ws

/-- The raw samples of that burst (R117). -/
def burstRaws (ws : List Word) : List Nat := ((ws.drop 3).take (burstCount ws)).map (fun w => w.toNat % 1024)

/-- The words a job reads: the held frame without its CRC word, or the raw copy (R116). -/
def sourceOf (s : State) (j : Job) : List Word :=
  match j.source with
  | .fifo => ((s.front.get j.link).held.getD []).dropLast
  | .copy cells w => chainWords s cells w

/-- A job conditions for a slot and a burst remains to be processed (R114, R117). -/
abbrev bursting (s : State) (j : Job) (i : SlotNo) (ws : List Word) : Prop :=
  s.job = some j ∧ j.outcome = .condition i ∧ j.stopped = false ∧ ws ≠ []
    ∧ ws = (sourceOf s j).drop j.position

/-- The class of the slot a job conditions for. -/
def classOfSlot (s : State) (i : SlotNo) : ClassEntry := s.classes.get (s.slots.get i).cls

/-! ### The mapping of channels -/

/-- A window covers a channel of a link (R98). -/
abbrev covers (w : MapWindow) (n : LinkNo) (channel : Nat) : Prop :=
  w.valid = true ∧ w.link = n ∧ w.firstChannel ≤ channel ∧ channel < w.firstChannel + w.count

/-- The pad of its row on which a window puts a channel (R99). -/
def padIn (w : MapWindow) (channel : Nat) : Nat :=
  if w.direction = .ascending then w.firstPad + (channel - w.firstChannel) else w.firstPad - (channel - w.firstChannel)

/-- A window is the effective one of a link and channel: the lowest that covers them (R98, R105). -/
abbrev effective (s : State) (i : SlotNo) (n : LinkNo) (channel : Nat) : Prop :=
  covers (s.windows.get i) n channel ∧ ∀ k < i, ¬ covers (s.windows.get k) n channel

/-- The place of a link and channel: the row and the pad its effective window gives, and the flat number of that pad, which counts the
pads of the rows below (R97 to R99). -/
abbrev placed (s : State) (n : LinkNo) (channel : Nat) (p : Place) : Prop :=
  ∃ i, effective s i n channel ∧ p.row = (s.windows.get i).row.val ∧ p.pad = padIn (s.windows.get i) channel
    ∧ p.flat = (s.rows.list.take p.row).sum + p.pad

/-! ### The treatment of a burst -/

/-- The treatment of a burst by pad mode and class kind (R119). The column DISABLED, which R119 leaves out, is the model's (log
entry 12). -/
def treatment (m : PadMode) (k : ClassKind) : Treatment :=
  if m = .masked ∨ k = .disabled then .dropped
  else if m = .raw ∨ k = .pedestal then .raw
  else if k = .calibration then .corrected
  else .suppressed

/-- The samples of a burst: each raw sample, the value its treatment gives it, and its bin, which is the burst's start bin plus the
link's offset plus its index in the burst (R119, R121, R125). -/
def treated (s : State) (j : Job) (pad : Pad) (t : Treatment) (ws : List Word) : List Sample :=
  (burstRaws ws).zipIdx.map (fun r =>
    { bin := ((ws.getD 1 0).toNat % 1024 : Nat) + s.offsets.get j.link + (r.2 : Int)
      raw := r.1
      value := if t = .suppressed ∨ t = .corrected then correct pad.pedestal pad.gain r.1 else r.1 })

/-- The pulses of a burst before clipping: those of suppression, or the whole burst as one (R119, R123, R124). -/
def pulses (t : Treatment) (c : ClassEntry) (pad : Pad) (xs : List Sample) : List (List Sample) :=
  match t with
  | .suppressed => (pulseSpans c pad.threshold xs).map (fun a => (xs.drop a.1).take (a.2 + 1 - a.1))
  | .corrected | .raw => [xs]
  | .dropped => []

/-- The samples of a pulse that clipping keeps (R126). -/
def keptOf (c : ClassEntry) (p : List Sample) : List Sample :=
  p.filter (fun q => decide (0 ≤ q.bin) && decide (q.bin < (c.driftWindow : Int)))

/-- The words of a pulse: its place, its flags SATURATED, CLIPPED and RAW with its start bin, its number of samples and their values, all
of the samples that are kept (R122, R126, R127, R200). -/
def pulseWords (c : ClassEntry) (place : Place) (t : Treatment) (p : List Sample) : List Word :=
  let kept := keptOf c p
  let flags := (if ∃ q ∈ kept, q.raw = 1023 then 32768 else 0) + (if kept.length < p.length then 16384 else 0)
    + (if t = .raw then 8192 else 0)
  [BitVec.ofNat 16 (256 * place.row + place.pad), BitVec.ofNat 16 (flags + ((kept.head?.map Sample.bin).getD 0).toNat),
    BitVec.ofNat 16 kept.length] ++ kept.map (fun q => BitVec.ofNat 16 q.value)

/-- The cells a pulse of `size` words takes for a job (R128). -/
def needed (j : Job) (size : Nat) : Nat := cellsOf (j.wordCount + size) - cellsOf j.wordCount

/-- A job whose pulse has lost samples flags its fragment CLIPPED (R126; also where the pulse is then refused, log entry 11). -/
def clippedJob (c : ClassEntry) (j : Job) (p : List Sample) : Job :=
  if (keptOf c p).length < p.length then { j with flags := { j.flags with clipped := true } } else j

/-- A job after a pulse of `size` words is written. -/
def wroteJob (s : State) (j : Job) (size : Nat) : Job :=
  { j with
    cells := j.cells ++ s.freeQueue.take (needed j size), pulseCount := j.pulseCount + 1, wordCount := j.wordCount + size }

/-- One pulse of a burst, for a job that has not stopped: a pulse that clipping leaves empty goes away whole; any other is refused
at the cell limit, refused for want of free cells, or written whole at the end of the chain (R126 to R130). -/
def meetsPulse (c : ClassEntry) (place : Place) (t : Treatment) (a : State × Job) (p : List Sample) : State × Job :=
  let s := a.1
  let j := clippedJob c a.2 p
  let words := pulseWords c place t p
  let need := needed j words.length
  if a.2.stopped = true then a
  else if keptOf c p = [] then (s, j)
  else if 0 < need ∧ c.cellLimit < j.cells.length + need then
    (s.bump (.link .truncated j.link), { j with stopped := true, flags := { j.flags with truncated := true } })
  else if s.freeQueue.length < need then
    (((s.bump (.link .truncated j.link)).bump (.part .storeFullTruncations)).addError .storeExhausted,
      { j with stopped := true, flags := { j.flags with truncated := true, storeFull := true } })
  else
    (chainWritten (if need = 0 then s else cellsTaken s need) (wroteJob s j words.length).cells j.wordCount words,
      wroteJob s j words.length)

/-- One raw sample meets an accumulator entry (R150, R151). -/
def accumulate (e : AccEntry) (raw : Nat) : AccEntry :=
  if raw = 1023 ∨ 65535 ≤ e.count then e else ⟨e.sum + raw, e.count + 1⟩

/-- A PEDESTAL burst that is not dropped meets the accumulator that is ACCUMULATING: it is added to the pad's entry, or withheld where
a front link was urgent at the job's grant, which the first burst withheld counts (R120, R150). -/
def delivered (s : State) (j : Job) (c : ClassEntry) (place : Place) (t : Treatment) (ws : List Word) : State × Job :=
  if c.kind ≠ .pedestal ∨ t = .dropped ∨ s.accState ≠ .accumulating then (s, j)
  else if j.urgent = false then
    ({ s with
        acc :=
          Memory.write AccEntry.cold s.acc place.flat
            ((burstRaws ws).foldl accumulate (Memory.read AccEntry.cold s.acc place.flat)) }, j)
  else if j.skipCounted = true then (s, j)
  else (s.bump (.part .pedestalSkip), { j with skipCounted := true })

/-! ### Emission -/

/-- A link has a section in a slot's frame (R161). -/
abbrev hasSection (x : Slot) (n : LinkNo) : Prop :=
  x.contribs.get n = some .arrived ∨ x.extras.get n = some .recorded

/-- The links whose contribution is in a state, as the two words of a link set (R26, R194). -/
def setWords (p : LinkNo → Prop) [DecidablePred p] : List Word :=
  let sum := ((indices 24).map (fun n => if p n then 2 ^ n.val else 0)).sum
  [BitVec.ofNat 16 sum, BitVec.ofNat 16 (sum / 65536)]

/-- The links that have a section, ascending (R161): each once, also where it is ARRIVED and a recorded extra (log entry 22). -/
def sectionLinks (x : Slot) : List LinkNo :=
  (indices 24).filter (fun n => decide (x.contribs.get n = some .arrived) || decide (x.extras.get n = some .recorded))

/-- The section count: the members of the arrived set and those of the extra set, added up (R160, R200). -/
def sectionCount (x : Slot) : Nat :=
  ((indices 24).filter (fun n => decide (x.contribs.get n = some .arrived))).length
    + ((indices 24).filter (fun n => decide (x.extras.get n = some .recorded))).length

/-- The header words of an event frame (R160, R200). -/
def headerWords (s : State) (x : Slot) : List Word :=
  [BitVec.ofNat 16 (8192 + s.general.segment), x.tag,
    BitVec.ofNat 16 (x.cls.val + 16 * x.status.code + 256 * x.cause.code), x.stamp.extractLsb' 32 16,
    x.stamp.extractLsb' 16 16, x.stamp.extractLsb' 0 16, BitVec.ofNat 16 x.skippedBefore]
    ++ setWords (fun n => ((s.classes.get x.cls).expected.getLsbD n.val) = true)
    ++ setWords (fun n => x.contribs.get n = some .arrived) ++ setWords (fun n => x.contribs.get n = some .missing)
    ++ setWords (fun n => x.contribs.get n = some .lost) ++ setWords (fun n => x.contribs.get n = some .absent)
    ++ setWords (fun n => x.extras.get n = some .recorded) ++ [BitVec.ofNat 16 (sectionCount x)]

/-- The words of one section: its header words and the words of its chain (R161, R200). -/
def sectionWords (s : State) (x : Slot) (n : LinkNo) : List Word :=
  match x.records.get n with
  | none => []
  | some r =>
    [BitVec.ofNat 16 n.val, r.flags.toWord, BitVec.ofNat 16 r.pulseCount, BitVec.ofNat 16 r.wordCount]
      ++ chainWords s r.cells r.wordCount

/-- Every data word of the event frame before its CRC word (R162, R200). -/
def frameWords (s : State) (x : Slot) : List Word :=
  let body := headerWords s x ++ (sectionLinks x).flatMap (sectionWords s x)
  body ++ [BitVec.ofNat 16 (256 * x.late + x.duplicate), BitVec.ofNat 16 ((body.length + 3) / 65536),
    BitVec.ofNat 16 (body.length + 3)]

/-- What the part has sent on the uplink. -/
def uplinkOut (s : State) : List LaneCode :=
  (s.out.filter (fun p => decide (p.1 = .uplink))).map Prod.snd

/-! ### Requests -/

/-- Run control may take the request at the head of the queue (R174). -/
abbrev takes (s : State) (content : List Word) (rest : List (List Word)) : Prop :=
  s.requests = content :: rest ∧ s.executing = false ∧ s.replies.length < 4

/-- The state after the request has left the inbound queue (R174). -/
def taken (s : State) (rest : List (List Word)) : State := { s with requests := rest }

/-- The reply to a request: its number, the result, its content words 1 to 3 and the result data (R199). -/
def replyOf (content : List Word) (r : Result) (data : List Word) : Reply :=
  { number := (content.getD 0 0).setWidth 8, result := r, echo1 := content.getD 1 0, echo2 := content.getD 2 0,
    echo3 := content.getD 3 0, data := data }

/-- The reply joins the tail of the reply queue (R174). -/
def replied (s : State) (content : List Word) (r : Result) (data : List Word) : State :=
  { s with replies := s.replies ++ [replyOf content r data] }

/-- The content of a COMMAND of a verb code (R196). -/
def command (number : BitVec 8) (verb : Nat) (argument : Word) : List Word :=
  [3#8 ++ number, BitVec.ofNat 16 verb, argument]

/-- The content of a READ (R196). -/
def readRequest (number : BitVec 8) (space index count : Word) : List Word := [1#8 ++ number, space, index, count]

/-- The content of a WRITE (R196). -/
def writeRequest (number : BitVec 8) (space : Nat) (index count : Word) (entries : List Word) : List Word :=
  [2#8 ++ number, BitVec.ofNat 16 space, index, count] ++ entries

/-- The command of the table that takes a COMMAND of a verb code (R196). -/
def verbCommand : Nat → Option Instr
  | 1 => some .setupDone
  | 2 => some .start
  | 3 => some .stop
  | 4 => some .flush
  | 5 => some .warmReset
  | 6 => some .clearCounters
  | 7 => some .clearErrors
  | 8 => some .barLink
  | 9 => some .unbarLink
  | 10 => some .pedestalStart
  | 11 => some .pedestalStop
  | 12 => some .pedestalAdopt
  | _ => none

/-- The number of entries of the space of a number (R177). -/
def spaceEntries : Nat → Nat
  | 0 => 1
  | 1 => 24
  | 2 => 8
  | 3 => 64
  | 4 => 48
  | 5 => 3072
  | 6 => 3072
  | 7 => 575
  | 8 => 1
  | 9 => 64
  | _ => 0

/-- The 31 words of a SLOTS entry (R26, R27, R198). -/
def slotEntry (s : State) (i : SlotNo) : List Word :=
  let x := s.slots.get i
  let d := s.deadlines.get i
  let is (c : Contribution) : List Word := setWords (fun n => x.contribs.get n = some c)
  let sum (f : FragRecord → Nat) : Nat := ((indices 24).map (fun n => ((x.records.get n).map f).getD 0)).sum
  [BitVec.ofNat 16 (x.state.code + 16 * x.cls.val + 256 * d.stage.code), x.tag, x.stamp.extractLsb' 32 16,
    x.stamp.extractLsb' 16 16, x.stamp.extractLsb' 0 16, BitVec.ofNat 16 x.skippedBefore,
    BitVec.ofNat 16 (256 * x.late + x.duplicate), d.expiry.extractLsb' 16 16, d.expiry.extractLsb' 0 16,
    BitVec.ofNat 16 (x.status.code + 16 * x.cause.code)]
    ++ setWords (fun n => x.state ≠ .free ∧ (s.classes.get x.cls).expected.getLsbD n.val = true) ++ is .awaited
    ++ is .queued
    ++ setWords (fun n => x.contribs.get n = some .conditioning ∨ x.extras.get n = some .conditioning) ++ is .arrived
    ++ is .missing ++ is .lost ++ is .absent ++ setWords (fun n => x.extras.get n = some .recorded)
    ++ [BitVec.ofNat 16 (sum (fun r => r.cells.length)), BitVec.ofNat 16 (sum FragRecord.wordCount / 65536),
      BitVec.ofNat 16 (sum FragRecord.wordCount)]

/-- The 8 words of the GENERAL entry (R197). -/
def generalWords (g : General) : List Word :=
  [g.segment, g.lookAhead, g.parkTime, g.eventHold, g.eventRelease, g.cellHold, g.cellResume, g.stallTimeout].map
    (BitVec.ofNat 16)

/-- The 13 words of a CLASSES entry (R194, R197). -/
def classWords (c : ClassEntry) : List Word :=
  [BitVec.ofNat 16
      (match c.kind with
        | .disabled => 0
        | .physics => 1
        | .calibration => 2
        | .pedestal => 3)]
    ++ setWords (fun n => c.expected.getLsbD n.val = true)
    ++ [c.admission, c.t1, c.t2, c.stragglers, c.driftWindow, c.preSamples, c.postSamples, c.minWidth, c.mergeGap,
      c.cellLimit].map (BitVec.ofNat 16)

/-- The 6 words of a WINDOWS entry (R194, R197). -/
def windowWords (w : MapWindow) : List Word :=
  [(if w.valid = true then 1 else 0) + (if w.direction = .descending then 2 else 0), w.link.val, w.firstChannel, w.count,
    w.row.val, w.firstPad].map (BitVec.ofNat 16)

/-- The 4 words of a PADS entry (R194, R197). -/
def padWords (p : Pad) : List Word :=
  [p.pedestal, p.gain, p.threshold,
    match p.mode with
    | .active => 0
    | .raw => 1
    | .masked => 2].map (BitVec.ofNat 16)

/-- A flow state as its bit (R194). -/
def holdBit (f : Flow) : Nat := if f = .hold then 1 else 0

/-- The 20 words of the STATUS entry (R179, R198). -/
def statusEntry (s : State) : List Word :=
  let eight (g : Nat) : Word :=
    BitVec.ofNat 16
      (((List.range 8).map (fun m => 4 ^ m * (s.front.get (Fin.ofNat 24 (8 * g + m))).rx.link.code)).sum)
  [BitVec.ofNat 16
      (s.runState.code + (if s.locked = true then 4 else 0) + 16 * s.accState.code + 256 * s.timing.link.code
        + 1024 * holdBit s.timingFlow + (if s.newestTag ≠ none then 2048 else 0) + 4096 * s.uplink.link.code
        + 16384 * holdBit s.farmFlow),
    s.errors.setWidth 16, BitVec.ofNat 16 s.fill, BitVec.ofNat 16 s.get.val, BitVec.ofNat 16 s.put.val,
    s.newestTag.getD 0, BitVec.ofNat 16 s.pendingSkipped, eight 0, eight 1, eight 2]
    ++ setWords (fun n => (s.front.get n).flow = .hold)
    ++ [BitVec.ofNat 16 s.orphans.length, BitVec.ofNat 16 s.adoption.length,
      BitVec.ofNat 16
        (s.rotation.val
          + match s.job with
            | none => 0
            | some j => 32768 + 16384 * (if j.outcome = .park then 1 else 0) + 256 * j.requester.val),
      BitVec.ofNat 16 s.freeQueue.length, BitVec.ofNat 16 s.lowMark,
      BitVec.ofNat 16
        ((match s.emitter.frame with
          | .none => 0
          | .event => if s.emitter.held = true then 2 else 1
          | .reply => 3) + 16 * s.replies.length + 256 * s.requests.length),
      s.timebase.extractLsb' 16 16, s.timebase.extractLsb' 0 16]

/-- The command of the table that takes a WRITE to the space of a number (R177). -/
def writeCommand : Nat → Instr
  | 0 => .writeGeneral
  | 3 => .writeWindows
  | 4 => .writeRows
  | _ => .write

/-- The words of the entry that an index receives from a WRITE (R178). -/
def entryOf (size : Nat) (entries : List Word) (k : Nat) : List Word := (entries.drop (k * size)).take size

/-- A written unsigned value clamped to its range (R178). -/
def clamped (lo hi : Nat) (w : Word) : Nat := max lo (min hi w.toNat)

/-- Every value of a list of written fields, each with its range, lies within it (R178). -/
def allFit (fields : List (Nat × Nat × Word)) : Prop := ∀ f ∈ fields, f.1 ≤ f.2.2.toNat ∧ f.2.2.toNat ≤ f.2.1

/-- The class entry that 13 written words give (R178, R197). -/
def classEntry (e : List Word) : ClassEntry :=
  { kind := [.disabled, .physics, .calibration, .pedestal].getD ((e.getD 0 0).toNat % 4) .disabled
    expected := (e.getD 2 0).extractLsb' 0 8 ++ e.getD 1 0
    admission := clamped 1 64 (e.getD 3 0), t1 := clamped 1 16383 (e.getD 4 0), t2 := clamped 0 16383 (e.getD 5 0)
    stragglers := clamped 0 24 (e.getD 6 0), driftWindow := clamped 1 1024 (e.getD 7 0)
    preSamples := clamped 0 3 (e.getD 8 0), postSamples := clamped 0 7 (e.getD 9 0)
    minWidth := clamped 1 4 (e.getD 10 0), mergeGap := clamped 0 7 (e.getD 11 0)
    cellLimit := clamped 1 256 (e.getD 12 0) }

/-- No field of a written class entry is clamped (R178). -/
def classFits (e : List Word) : Prop :=
  allFit [(1, 64, e.getD 3 0), (1, 16383, e.getD 4 0), (0, 16383, e.getD 5 0), (0, 24, e.getD 6 0),
    (1, 1024, e.getD 7 0), (0, 3, e.getD 8 0), (0, 7, e.getD 9 0), (1, 4, e.getD 10 0), (0, 7, e.getD 11 0),
    (1, 256, e.getD 12 0)]

/-- The pad that 4 written words give (R178, R197). -/
def padEntry (e : List Word) : Pad :=
  { pedestal := clamped 0 4095 (e.getD 0 0), gain := clamped 0 511 (e.getD 1 0), threshold := clamped 0 1023 (e.getD 2 0)
    mode := [.active, .raw, .masked, .masked].getD ((e.getD 3 0).toNat % 4) .masked }

/-- No field of a written pad is clamped; the fourth mode code is (R178). -/
def padFits (e : List Word) : Prop :=
  allFit [(0, 4095, e.getD 0 0), (0, 511, e.getD 1 0), (0, 1023, e.getD 2 0)] ∧ (e.getD 3 0).toNat % 4 ≠ 3

/-- The general settings that 8 written words give (R178, R197). -/
def generalEntry (e : List Word) : General :=
  { segment := clamped 0 63 (e.getD 0 0), lookAhead := clamped 1 255 (e.getD 1 0), parkTime := clamped 1 4095 (e.getD 2 0)
    eventHold := clamped 1 64 (e.getD 3 0), eventRelease := clamped 0 63 (e.getD 4 0)
    cellHold := clamped 0 8192 (e.getD 5 0), cellResume := clamped 0 8192 (e.getD 6 0)
    stallTimeout := clamped 1 1023 (e.getD 7 0) }

/-- No field of written general settings is clamped (R178). -/
def generalFits (e : List Word) : Prop :=
  allFit [(0, 63, e.getD 0 0), (1, 255, e.getD 1 0), (1, 4095, e.getD 2 0), (1, 64, e.getD 3 0), (0, 63, e.getD 4 0),
    (0, 8192, e.getD 5 0), (0, 8192, e.getD 6 0), (1, 1023, e.getD 7 0)]

/-- A map window is what 6 written words give (R101, R197). -/
def isWindow (w : MapWindow) (e : List Word) : Prop :=
  w.valid = (e.getD 0 0).getLsbD 0 ∧ w.direction = (if (e.getD 0 0).getLsbD 1 = true then .descending else .ascending)
    ∧ w.link.val = clamped 0 23 (e.getD 1 0) ∧ w.firstChannel = clamped 0 127 (e.getD 2 0)
    ∧ w.count = clamped 1 128 (e.getD 3 0) ∧ w.row.val = clamped 0 47 (e.getD 4 0)
    ∧ w.firstPad = clamped 0 191 (e.getD 5 0)

/-- No field of a written map window is clamped (R101). -/
def windowFits (e : List Word) : Prop :=
  allFit [(0, 23, e.getD 1 0), (0, 127, e.getD 2 0), (1, 128, e.getD 3 0), (0, 47, e.getD 4 0), (0, 191, e.getD 5 0)]

/-- DONE if no field was clamped, else CLAMPED (R178). -/
def writeResult (r : Result) (fits : Prop) : Prop := (fits → r = .done) ∧ (¬ fits → r = .clamped)

/-! ### The mapping -/

/-- A valid window keeps within the channel range and within its row (R104). -/
def windowWithin (s : State) (w : MapWindow) : Prop :=
  let pads := s.rows.get w.row
  w.firstChannel + w.count ≤ 128 ∧ 0 < pads
    ∧ (w.direction = .ascending → w.firstPad + w.count ≤ pads)
    ∧ (w.direction = .descending → w.firstPad < pads ∧ w.count ≤ w.firstPad + 1)

/-- A link and channel target a pad of a row, by their effective window (R98, R99). -/
abbrev targets (s : State) (i : SlotNo) (n : LinkNo) (channel row pad : Nat) : Prop :=
  effective s i n channel ∧ (s.windows.get i).row.val = row ∧ padIn (s.windows.get i) channel = pad

/-- No pad is the target of more than one link and channel pair (R105). -/
def mappingInjective (s : State) : Prop :=
  ∀ i k m n c d row pad, targets s i m c row pad → targets s k n d row pad → m = n ∧ c = d

/-- The five checks of Setup done pass (R182). -/
def setupPasses (s : State) : Prop :=
  s.rows.list.sum ≤ 3072 ∧ (∀ i, (s.windows.get i).valid = true → windowWithin s (s.windows.get i))
    ∧ mappingInjective s ∧ (∃ k, (s.classes.get k).kind ≠ .disabled)
    ∧ ∀ k, (s.classes.get k).kind ≠ .disabled → (s.classes.get k).expected ≠ 0

/-- The pad counts of rows 0 to `r`, added up (R103). -/
def padsUpTo (s : State) (r : Nat) : Nat := (s.rows.list.take (r + 1)).sum

/-- A window holds an effective pair whose pad an effective pair of a lower window also targets (R105). -/
def shares (s : State) (i : SlotNo) : Prop :=
  ∃ k < i, ∃ m n c d row pad, targets s i m c row pad ∧ targets s k n d row pad

/-- The first check of Setup done that fails names a space and an entry: ROWS and the first row whose running sum is above 3,072; WINDOWS
and the first valid window that does not keep within its ranges; WINDOWS and the lowest window that shares a pad with a lower
one; CLASSES and 0 where every class is DISABLED; CLASSES and the first class that is not DISABLED and expects no link (R103 to R105,
R182). -/
def setupFails (s : State) (space index : Nat) : Prop :=
  let within (w : SlotNo) : Prop := (s.windows.get w).valid = true → windowWithin s (s.windows.get w)
  let empty (k : ClassNo) : Prop := (s.classes.get k).kind ≠ .disabled ∧ (s.classes.get k).expected = 0
  (∃ r : RowNo, space = 4 ∧ index = r.val ∧ 3072 < padsUpTo s r.val ∧ ∀ q < r, padsUpTo s q.val ≤ 3072)
    ∨ ((∀ r : RowNo, padsUpTo s r.val ≤ 3072)
        ∧ ((∃ w : SlotNo, space = 3 ∧ index = w.val ∧ ¬ within w ∧ ∀ v < w, within v)
          ∨ ((∀ w, within w)
              ∧ ((∃ w : SlotNo, space = 3 ∧ index = w.val ∧ shares s w ∧ ∀ v < w, ¬ shares s v)
                ∨ ((∀ w, ¬ shares s w)
                    ∧ ((space = 2 ∧ index = 0 ∧ ∀ k, (s.classes.get k).kind = .disabled)
                      ∨ ∃ k : ClassNo, space = 2 ∧ index = k.val ∧ empty k ∧ ∀ c < k, ¬ empty c))))))

/-- A run state that admits the writing of tables: SETUP or READY (R177). -/
abbrev tablesOpen (s : State) : Prop := s.runState = .setup ∨ s.runState = .ready

end Sys2Proof.Spec

open Sys2Proof Sys2Proof.Machine Sys2Proof.Safety

/-! ### The queue of commands, and every command -/

/-- With a command at the front of the queue, a step is that command's execution on the state with the queue's rest. -/
def Obligations.StepRunsTheFrontCommand : Prop :=
  ∀ (c : Instr) (rest : List Instr) (s : State), s.pending = c :: rest → step s = exec c { s with pending := rest }

/-- With no command waiting, a step is one microsecond (R29): the expiries of this reading that no command has taken are taken, deadlines
in slot order, then orphan entries, then stall timers, so that none of this reading is left; a word boundary passes on every
return lane; and the timebase rises by one. Nothing else changes, and with nothing due nothing is taken. The model's choice: the
table has no row for the timebase (log entry 1), an expiry that is not due changes nothing (log entry 2), a microsecond is no shorter
than a word time (log entry 4), and a HOLD sent while a link is BARRED is counted (log entry 24). -/
def Obligations.IdleStepEndsAMicrosecond : Prop :=
  ∀ s : State, s.pending = [] →
    let t := Spec.after (Spec.expiries s) s
    step s = .next { Spec.boundaries t with timebase := s.timebase + 1 }
      ∧ t.timebase = s.timebase ∧ (DeadlinesMatch s → Spec.nothingDue t) ∧ (Spec.nothingDue s → t = s)

/-- Every command answers a next state, whatever the state: none faults and none is refused. It leaves the commands that
wait as they are, and it takes back nothing of what has been sent. The record of what was sent and the queue of commands
are the model's own (log entries 4 and 21). -/
def Obligations.EveryCommandAnswersANextState : Prop :=
  ∀ (c : Instr) (s : State), ∃ t, exec c s = .next t ∧ t.pending = s.pending ∧ ∃ codes, t.out = s.out ++ codes

/-! ### Resets -/

/-- After COLD_RESET every block holds its cold reset values, whatever the state before (R188); and the state after power-up
is the same but for what a cold reset leaves alone. The words of the store stay (R145). The model's choices: that assertion and
release are one command and that the record of what was sent stays (log entry 6), and the values no table gives, among them those of
the timing and uplink receivers' frames and of the idle emitter (log entry 16). -/
def Obligations.ColdResetGivesTheColdResetValues : Prop :=
  ∀ s : State, ∃ t, exec .coldReset s = .next t
    ∧ t.runState = .setup ∧ t.locked = false ∧ t.executing = false ∧ t.errors = 0 ∧ t.timebase = 0
    ∧ (∀ c, t.counter c = 0)
    ∧ t.general = ⟨0, 64, 200, 56, 40, 1024, 2048, 50⟩
    ∧ (∀ k, t.classes.get k = ⟨.disabled, 0, 64, 150, 100, 2, 1024, 2, 4, 2, 2, 64⟩)
    ∧ (∀ n, t.offsets.get n = 0) ∧ (∀ i, (t.windows.get i).valid = false)
    ∧ (∀ r, t.rows.get r = 0) ∧ (∀ k, Memory.read Pad.cold t.pads k = ⟨0, 256, 0, .active⟩)
    ∧ t.accState = .idle ∧ (∀ k, Memory.read AccEntry.cold t.acc k = ⟨0, 0⟩)
    ∧ (∀ n, (t.front.get n).rx.link = .dark ∧ (t.front.get n).rx.frame = .outside ∧ (t.front.get n).occupancy = 0
        ∧ (t.front.get n).flow = .go ∧ (t.front.get n).due = .none ∧ (t.front.get n).notice = .none
        ∧ (t.front.get n).rx.codeErrors = 0 ∧ (t.front.get n).rx.idleCount = 0)
    ∧ t.timing.link = .dark ∧ t.uplink.link = .dark ∧ t.newestTag = none ∧ t.pendingSkipped = 0
    ∧ t.timingFlow = .hold ∧ t.timingDue = .none ∧ t.put = 0 ∧ t.get = 0 ∧ t.fill = 0
    ∧ (∀ i, (t.slots.get i).state = .free ∧ (t.deadlines.get i).stage = .none)
    ∧ t.orphans = [] ∧ t.adoption = [] ∧ t.job = none ∧ t.rotation = 24
    ∧ t.freeQueue = List.range 8192 ∧ t.lowMark = 8192
    ∧ t.emitter.frame = .none ∧ t.farmFlow = .go ∧ t.requests = [] ∧ t.replies = []
    ∧ t.store = s.store ∧ t.out = s.out ∧ { t with out := [], store := [], pending := [] } = State.reset

/-- Every invariant stated below holds after reset. What the receivers hold there where no table gives a value is the model's choice (log
entry 16). -/
def Obligations.ResetIsSound : Prop :=
  RunControlSound State.reset ∧ QueuesBounded State.reset ∧ JobSound State.reset ∧ MemoriesCanonical State.reset
    ∧ CountersBounded State.reset ∧ CountsInRange State.reset ∧ SettingsInRange State.reset
    ∧ DeadlinesMatch State.reset ∧ RingSound State.reset ∧ TagsDistinct State.reset ∧ AssemblySound State.reset
    ∧ ContributionsMatch State.reset ∧ CellsConserved State.reset ∧ ChainsSound State.reset
    ∧ ReceiversSound State.reset ∧ FlowSettled State.reset ∧ IdleOutsideRun State.reset

/-! ### Invariants that every step keeps -/

/-- The setup lock is held in every run state except SETUP (R106), the timing flow state is HOLD whenever the run state is not
RUNNING (R70), and the accumulator leaves IDLE only under the lock (R148): kept by every step. -/
def Obligations.StepKeepsRunControlSound : Prop :=
  ∀ s t : State, RunControlSound s → step s = .next t → RunControlSound t

/-- The request, reply and orphan queues never exceed 4, 4 and 16 (R45, R166, R167), and the held frame of a link is the
source of the job in progress (R86, R87): kept by every step. -/
def Obligations.StepKeepsQueuesBoundedAndJobSound : Prop :=
  ∀ s t : State, QueuesBounded s → JobSound s → step s = .next t → QueuesBounded t ∧ JobSound t

/-- The tables keep their canonical form, no counter exceeds 4,294,967,295 (R180), every stored setting lies within its range (R101,
R178), and so does every stored count and sum: an accumulator entry's count and sum (R146, R151), a slot's late and duplicate
counts (R12, R13), its skipped-before and the pending skipped count (R68): kept by every step. -/
def Obligations.StepKeepsStoredValuesInRange : Prop :=
  ∀ s t : State, MemoriesCanonical s → CountersBounded s → SettingsInRange s → CountsInRange s → step s = .next t →
    MemoriesCanonical t ∧ CountersBounded t ∧ SettingsInRange t ∧ CountsInRange t

/-- A deadline is pending exactly for an OPEN slot, at stage FIRST, and for an EXTENDED slot, at stage SECOND (R30, R35): kept by
every step. -/
def Obligations.StepKeepsDeadlinesMatchingSlots : Prop :=
  ∀ s t : State, DeadlinesMatch s → step s = .next t → DeadlinesMatch t

/-- The ring: the non-FREE slots are the fill slots from get on, put follows the last of them (R1), and only the slot at get is
EMITTING, while its event frame is sent (R25): kept by every step. -/
def Obligations.StepKeepsTheRing : Prop := ∀ s t : State, RingSound s → step s = .next t → RingSound t

/-- In SETUP and READY the table, the orphan list and the adoption queue are empty and no job is in progress (R28, R45, R184):
kept by every step of a sound ring. -/
def Obligations.StepKeepsTheTableEmptyOutsideRun : Prop :=
  ∀ s t : State, RingSound s → IdleOutsideRun s → step s = .next t → IdleOutsideRun t

/-- No two non-FREE slots carry the same tag, and no orphan entry carries the tag of a non-FREE slot (R7, R45): kept by every
step. -/
def Obligations.StepKeepsTagsDistinct : Prop := ∀ s t : State, TagsDistinct s → step s = .next t → TagsDistinct t

/-- Contributions, extras, records, closure cause and status agree in every slot, a CONDITIONING contribution or extra is the
job in progress (R6), and a QUEUED contribution is one expected entry of the adoption queue (R50): kept by every step of
a sound ring. With them, where the table is empty in SETUP and READY: in every slot that is not FREE a link has a contribution
exactly when the expected set of the slot's class has the link (R5). -/
def Obligations.StepKeepsAssemblySound : Prop :=
  ∀ s t : State, RingSound s → AssemblySound s → step s = .next t →
    AssemblySound t ∧ (IdleOutsideRun s → ContributionsMatch s → ContributionsMatch t)

/-- The free cells and the cells of every owner are together the 8,192 cells of the store, each once (R134, R142): kept by every
step of a sound ring, table and job. -/
def Obligations.StepConservesCells : Prop :=
  ∀ s t : State, RingSound s → AssemblySound s → JobSound s → CellsConserved s → step s = .next t → CellsConserved t

/-- Every chain has the number of cells its word count needs, rounded up (R45, R127): kept by every step of a sound ring. -/
def Obligations.StepKeepsChainsSound : Prop :=
  ∀ s t : State, RingSound s → ChainsSound s → step s = .next t → ChainsSound t

/-- Every receiver's state agrees with itself: frames only in LIVE, words and a running stall timer only in RECEIVING, a FIFO
of at most 8,192 words, the running CRC that of the words before the last, fewer than four code errors counted, the loss notice as R92
has it (R76 to R92): kept by every step. That the running CRC outside a frame is its start value, and that no words and no running
timer stand there, is the model's choice (log entry 16); that the code error count starts again after a loss of lock, so that it stays
below four outside LIVE too, is its reading (log entry 10). -/
def Obligations.StepKeepsReceiversSound : Prop :=
  ∀ s t : State, ReceiversSound s → step s = .next t → ReceiversSound t

/-- Each flow state, toward the cards and on the timing link, is always the one its table gives for the values as they stand
(R70, R88): kept by every step. -/
def Obligations.StepKeepsFlowSettled : Prop :=
  ∀ s t : State, RunControlSound s → ReceiversSound s → FlowSettled s → step s = .next t → FlowSettled t

/-! ### Counters, flow symbols, the loss notice -/

/-- A counter rises by one, or by a number (R90, R168), and stops at 4,294,967,295; no other counter and nothing else changes (R180).
Each counter has an entry of its own in the COUNTERS space: entry 24 k + n for the per-link counter k of link n, 528 on for the
admissions of the classes, 536 on for their refusals at the admission level, and 544 on for the part-wide counters (R180). -/
def Obligations.CountersRiseByOneAndStop : Prop :=
  (∀ (s : State) (c : Counter) (k : Nat), MemoriesCanonical s →
    (s.bumpBy c k).counter c = min 4294967295 (s.counter c + k)
      ∧ (∀ d, d ≠ c → (s.bumpBy c k).counter d = s.counter d) ∧ c.entry < 575
      ∧ s.bumpBy c k = { s with counters := (s.bumpBy c k).counters } ∧ s.bump c = s.bumpBy c 1)
    ∧ (∀ (s : State) (c : Counter), s.counter c = Memory.read 0 s.counters c.entry)
    ∧ (∀ n : LinkNo,
        [LinkCounter.framesCommitted, .crcErrors, .short, .foreign, .oversize, .overflow, .stall, .cutEnded, .idleDiscard,
          .discardedByBar, .unframedCodes, .codeErrors, .lockLosses, .holdSent, .fragmentsConditioned, .malformed,
          .truncated, .unmapped, .parked, .stray, .late, .duplicate].map (fun k => (Counter.link k n).entry) =
          (List.range 22).map (fun k => 24 * k + n.val))
    ∧ (∀ k : ClassNo, (Counter.admitted k).entry = 528 + k.val ∧ (Counter.refusedLevel k).entry = 536 + k.val)
    ∧ [PartCounter.refusedDisabled, .refusedDuplicate, .triggerOutsideRun, .timingFrameDiscarded, .timingLinkLosses,
        .timingHoldSent, .extensions, .firstDeadlineClosures, .secondDeadlineClosures, .flushClosures, .orphansAdopted,
        .orphansExpired, .parkRefusedListFull, .parkRefusedStoreFull, .storeFullTruncations, .pedestalSkip,
        .eventFramesSent, .sentComplete, .sentPartial, .sentFlushed, .emissionAborted, .eventFramesCut, .replyFramesSent,
        .repliesDropped, .farmHoldReceived, .uplinkLosses, .uplinkCodeErrors, .uplinkUnframedCodes, .requestCrcErrors,
        .requestFramesDiscarded, .requestQueueOverflow].map (fun p => (Counter.part p).entry) =
      (List.range 31).map (fun k => 544 + k)

/-- A re-evaluation of the flow state toward a card, by the occupancy of its FIFO, follows R88, and a change, and only a change, makes the
symbol due on the return lane (R89) and stops or restarts the stall timer of a frame in RECEIVING (R85). Trigger intake's follows
R70 and R71 in the same way. At a word boundary the lane sends one symbol, the state after every change since the last boundary
(R93), and a change to HOLD is counted as it is sent (R71, R89). Where the boundaries fall, and that a HOLD which returns before the
boundary counts as one change sent, is the model's choice (log entry 4), and so is that a HOLD sent while the link is BARRED is counted
like any other (log entry 24). -/
def Obligations.FlowSymbolsFollowTheTables : Prop :=
  (∀ (s : State) (n : LinkNo),
    let f := s.front.get n
    let new := if 6144 ≤ f.occupancy then Flow.hold else if f.occupancy ≤ 2048 then Flow.go else f.flow
    let rx := { f.rx with
      stall := if new = .go ∧ f.rx.frame = .receiving then some (Spec.inMicroseconds s s.general.stallTimeout) else none }
    f.occupancy = (f.waiting.map List.length).sum + (f.held.getD []).length + f.rx.words.length
      ∧ (new = f.flow → s.evalFront n = s)
      ∧ (new ≠ f.flow → s.evalFront n = s.setFront n { f with flow := new, due := .changed, rx := rx }))
    ∧ (∀ s : State,
      let new :=
        if s.runState ≠ .running ∨ s.general.eventHold ≤ s.fill ∨ s.freeQueue.length < s.general.cellHold then Flow.hold
        else if s.fill ≤ s.general.eventRelease ∧ s.general.cellResume ≤ s.freeQueue.length then Flow.go
        else s.timingFlow
      (new = s.timingFlow → s.evalTiming = s)
        ∧ (new ≠ s.timingFlow → s.evalTiming = { s with timingFlow := new, timingDue := .changed }))
    ∧ ∀ (s : State) (l : Lane), s.wordBoundary l = Spec.boundary s l

/-- A loss notice turns an AWAITED contribution of its link to LOST in every OPEN or EXTENDED slot, closes with ALL_IN each
slot so changed that then meets the ALL_IN condition, and changes nothing else (R20, R23). -/
def Obligations.LossNoticeTurnsAwaitedToLost : Prop :=
  ∀ (s : State) (n : LinkNo),
    let t := s.lossNotice n
    t = { s with slots := t.slots, deadlines := t.deadlines }
      ∧ ∀ i,
        let x := s.slots.get i
        let y := { x with contribs := x.contribs.set n (some .lost) }
        if Spec.isOpen x ∧ x.contribs.get n = some .awaited then
          (Spec.allIn y → t.slots.get i = Spec.closed y .allIn ∧ t.deadlines.get i = { s.deadlines.get i with stage := .none })
            ∧ (¬ Spec.allIn y → t.slots.get i = y ∧ t.deadlines.get i = s.deadlines.get i)
        else t.slots.get i = x ∧ t.deadlines.get i = s.deadlines.get i

/-! ### Receivers: link states and frames -/

/-- The moves of R76 that the line brings about, on every lane: symbol lock in DARK, the IDLE count in ALIGNING up to LIVE at
64, any other valid code in ALIGNING, and nothing at all in DARK and BARRED. In LIVE an IDLE, and a flow symbol on a front
link or the timing link, only clear the code error count (R75, R77, R78). Entry to LIVE makes the flow symbol due again and
clears the loss notice state (R71, R89, R92). Each code follows a word boundary of its lane (R74). That the counts start at 0 in
LIVE is the model's reading (log entry 10), and that a lane's boundary falls before each code that arrives there is its choice (log
entry 4), and so is that a HOLD which that boundary sends while the link is BARRED is counted (log entry 24). -/
def Obligations.ReceiverStatesMoveAsTheLineGoes : Prop :=
  ∀ (before : State) (l : Lane),
    let s := Spec.boundary before l
    let r := s.rx l
    ((before.rx l).link = .dark →
      exec (.symbolLock l) before = .next (before.setRx l { before.rx l with link := .aligning, idleCount := 0 }))
      ∧ ((before.rx l).link ≠ .dark → exec (.symbolLock l) before = .next before)
      ∧ (r.link = .aligning → r.idleCount + 1 < 64 →
          exec (.linkIdle l) before = .next (s.setRx l { r with idleCount := r.idleCount + 1 }))
      ∧ (∀ c, Spec.arrivesOn l c → r.link = .aligning → exec c before = .next (s.setRx l { r with idleCount := 0 }))
      ∧ (∀ c, Spec.arrivesOn l c ∨ c = .linkIdle l ∨ c = .linkCodeError l → r.link = .dark ∨ r.link = .barred →
          exec c before = .next s)
      ∧ (r.link = .live → exec (.linkIdle l) before = .next (Spec.cleared s l))
      ∧ (∀ f, l ≠ .uplink → r.link = .live → exec (.inboundFlowSymbol l f) before = .next (Spec.cleared s l))
      ∧ (r.link = .aligning → r.idleCount + 1 = 64 →
          let up := { r with link := .live, idleCount := 64, codeErrors := 0 }
          match l with
          | .front n =>
            exec (.linkIdle l) before =
              .next (s.setFront n { s.front.get n with rx := up, due := .again, notice := .none })
          | .timing => exec (.linkIdle l) before = .next { s with timing := up, timingDue := .again }
          | .uplink => exec (.linkIdle l) before = .next { s with uplink := up })

/-- The farm's flow symbol sets the farm flow state while the uplink receiver is LIVE; a change to HOLD is counted and holds an
event frame in progress, GO lets it resume, and a repeated symbol changes nothing but the code error count (R77, R164). No
word of a held event frame is sent. That its CRC word and its END are not sent either is the model's reading (log entry 13). -/
def Obligations.FarmFlowSymbolsHoldAndResume : Prop :=
  (∀ (s : State) (f : Flow), s.uplink.link = .live →
    let u := Spec.cleared s .uplink
    (f = s.farmFlow → exec (.farmFlowSymbol f) s = .next u)
      ∧ (s.farmFlow = .go → f = .hold →
          exec (.farmFlowSymbol f) s =
            .next
              ({ u with
                  farmFlow := .hold
                  emitter := { s.emitter with held := decide (s.emitter.frame = FrameKind.event) } }.bump
                (.part .farmHoldReceived)))
      ∧ (s.farmFlow = .hold → f = .go →
          exec (.farmFlowSymbol f) s = .next { u with farmFlow := .go, emitter := { s.emitter with held := false } }))
    ∧ ∀ s : State, s.emitter.held = true → exec .eventFrameWordSent s = .next s ∧ exec .eventFrameEnd s = .next s

/-- A START at a LIVE receiver opens a frame, and a frame it finds in RECEIVING is discarded first, counted as a stall on a
front link, as a discarded timing frame on the timing link and as a discarded request frame on the uplink (R58, R78, R84,
R165). What a receiver's word list, CRC and timer hold outside a frame, and that a word boundary of the lane falls before the code,
is the model's choice (log entries 16 and 4). -/
def Obligations.StartOpensAFrame : Prop :=
  ∀ before : State,
    (∀ l,
      let s := Spec.boundary before l
      (s.rx l).link = .live → (s.rx l).frame ≠ .receiving →
        exec (.linkStart l) before = .next (Spec.frameOpened s l))
      ∧ (∀ n,
          let s := Spec.boundary before (.front n)
          Spec.receiving s (.front n) →
            exec (.linkStart (.front n)) before =
              .next
                (Spec.frameOpened
                  (Spec.frontDiscard (Spec.cleared s (.front n)) n .discarding .stall .frontStall) (.front n)))
      ∧ (let s := Spec.boundary before .timing
         Spec.receiving s .timing →
           exec (.linkStart .timing) before = .next ((Spec.frameOpened s .timing).bump (.part .timingFrameDiscarded)))
      ∧ (Spec.receiving before .uplink →
          exec (.linkStart .uplink) before =
            .next (((Spec.frameOpened before .uplink).bump (.part .requestFramesDiscarded)).addError .requestDropped))

/-- A data word at a LIVE receiver: outside a frame it is counted on a front link and on the uplink, in DISCARDING it is
skipped, and in RECEIVING it joins the frame unless it discards it: as oversize, overflow or foreign on a front link, as a
seventh word on the timing link, as the 513th on the uplink (R58, R78, R79, R83, R85, R165). That the checks of R83 come
before the one of R79 is the model's reading (log entry 9). What a receiver's word list, CRC and timer hold outside a frame, and
that a word boundary of the lane falls before the code, is the model's choice (log entries 16 and 4). -/
def Obligations.DataWordsJoinOrDiscardTheFrame : Prop :=
  ∀ (before : State) (w : Word),
    (∀ n,
      let l := Lane.front n
      let s := Spec.boundary before l
      let f := s.front.get n
      let u := Spec.cleared s l
      let next := exec (.linkDataWord l w) before
      (f.rx.link = .live → f.rx.frame = .outside → next = .next (u.bump (.link .unframedCodes n)))
        ∧ (f.rx.link = .live → f.rx.frame = .discarding → next = .next u)
        ∧ (Spec.receiving s l →
            (4096 ≤ f.rx.words.length → next = .next (Spec.frontDiscard u n .discarding .oversize .frontOversize))
            ∧ (f.rx.words.length < 4096 → 8192 ≤ f.occupancy →
              next = .next (Spec.frontDiscard u n .discarding .overflow .frontOverflow))
            ∧ (f.rx.words = [] → f.occupancy < 8192 → (w.toNat / 4096 ≠ 1 ∨ w.toNat % 64 ≠ s.general.segment) →
              next = .next ((Spec.frameLeaves u n .discarding).bump (.link .foreign n)))
            ∧ (f.rx.words.length < 4096 → f.occupancy < 8192 →
                (f.rx.words ≠ [] ∨ (w.toNat / 4096 = 1 ∧ w.toNat % 64 = s.general.segment)) →
              next = .next ((s.setFront n { f with rx := Spec.joined s l w }).evalFront n))))
      ∧ (let s := Spec.boundary before .timing
         let next := exec (.linkDataWord .timing w) before
         (s.timing.link = .live → s.timing.frame ≠ .receiving → next = .next (Spec.cleared s .timing))
         ∧ (Spec.receiving s .timing →
           (6 ≤ s.timing.words.length →
             next = .next ({ s with timing := Spec.frameOver s.timing .discarding }.bump (.part .timingFrameDiscarded)))
           ∧ (s.timing.words.length < 6 → next = .next { s with timing := Spec.joined s .timing w })))
      ∧ (let s := before
         let next := exec (.linkDataWord .uplink w) before
         (s.uplink.link = .live → s.uplink.frame = .outside →
           next = .next ((Spec.cleared s .uplink).bump (.part .uplinkUnframedCodes)))
         ∧ (s.uplink.link = .live → s.uplink.frame = .discarding → next = .next (Spec.cleared s .uplink))
         ∧ (Spec.receiving s .uplink →
           (512 ≤ s.uplink.words.length →
             next =
               .next
                 (({ s with uplink := Spec.frameOver s.uplink .discarding }.bump
                   (.part .requestFramesDiscarded)).addError .requestDropped))
           ∧ (s.uplink.words.length < 512 → next = .next { s with uplink := Spec.joined s .uplink w })))

/-- The END of a front frame: the first row of R80 that applies, in every run state; a committed frame becomes the last
waiting frame with all its words (R86). Outside a frame an END is counted, and in DISCARDING it ends the skip (R78). What a
receiver's word list, CRC and timer hold outside a frame, and that a word boundary of the lane falls before the code, is the
model's choice (log entries 16 and 4). -/
def Obligations.FrontFramesAreJudgedAtTheirEnd : Prop :=
  ∀ (before : State) (n : LinkNo),
    let l := Lane.front n
    let s := Spec.boundary before l
    let f := s.front.get n
    let u := Spec.cleared s l
    let next := exec (.linkEnd l) before
    (f.rx.link = .live → f.rx.frame = .outside → next = .next (u.bump (.link .unframedCodes n)))
      ∧ (f.rx.link = .live → f.rx.frame = .discarding →
          next = .next (s.setFront n { f with rx := { f.rx with codeErrors := 0, frame := .outside } }))
      ∧ (Spec.receiving s l →
          (f.rx.words.length < 4 → next = .next (Spec.frontDiscard u n .outside .short .frontMalformed))
          ∧ (4 ≤ f.rx.words.length → Spec.crcFails f.rx.words →
            next = .next (Spec.frontDiscard u n .outside .crcErrors .frontCrc))
          ∧ (4 ≤ f.rx.words.length → ¬ Spec.crcFails f.rx.words → Spec.tablesOpen s →
            next = .next ((Spec.frameLeaves u n .outside).bump (.link .idleDiscard n)))
          ∧ (4 ≤ f.rx.words.length → ¬ Spec.crcFails f.rx.words → s.runState = .running ∨ s.runState = .draining →
            next =
              .next
                ((s.setFront n
                  { f with waiting := f.waiting ++ [f.rx.words], rx := Spec.frameOver f.rx .outside }).bump
                  (.link .framesCommitted n))))

/-- The END of a request frame: too short, a CRC that does not check, a received request that joins the inbound queue, or
one that finds 4 there (R165, R166). Outside a frame an END is counted, and in DISCARDING it ends the skip. What a
receiver's word list, CRC and timer hold outside a frame is the model's choice (log entry 16). -/
def Obligations.RequestFramesAreJudgedAtTheirEnd : Prop :=
  ∀ s : State,
    let r := s.uplink
    let u := { s with uplink := Spec.frameOver r .outside }
    (r.link = .live → r.frame = .outside →
      exec (.linkEnd .uplink) s = .next ((Spec.cleared s .uplink).bump (.part .uplinkUnframedCodes)))
      ∧ (r.link = .live → r.frame = .discarding →
          exec (.linkEnd .uplink) s = .next { s with uplink := { r with codeErrors := 0, frame := .outside } })
      ∧ (Spec.receiving s .uplink →
          (r.words.length < 2 →
            exec (.linkEnd .uplink) s =
              .next ((u.bump (.part .requestFramesDiscarded)).addError .requestDropped))
          ∧ (2 ≤ r.words.length → Spec.crcFails r.words →
            exec (.linkEnd .uplink) s = .next ((u.bump (.part .requestCrcErrors)).addError .requestDropped))
          ∧ (2 ≤ r.words.length → ¬ Spec.crcFails r.words → s.requests.length < 4 →
            exec (.linkEnd .uplink) s = .next { u with requests := s.requests ++ [r.words.dropLast] })
          ∧ (2 ≤ r.words.length → ¬ Spec.crcFails r.words → 4 ≤ s.requests.length →
            exec (.linkEnd .uplink) s =
              .next ((u.bump (.part .requestQueueOverflow)).addError .requestDropped)))

/-- A CUT discards a frame in RECEIVING with its counter and leaves the receiver OUTSIDE; in DISCARDING it ends the skip,
and outside a frame it is counted, except on the timing link (R58, R78, R84, R165). What a receiver's word list, CRC and
timer hold outside a frame, and that a word boundary of the lane falls before the code, is the model's choice (log entries 16 and
4). -/
def Obligations.CutEndsAFrame : Prop :=
  ∀ before : State,
    (∀ l,
      let s := Spec.boundary before l
      (s.rx l).link = .live → (s.rx l).frame = .discarding →
        exec (.linkCut l) before = .next (s.setRx l { s.rx l with codeErrors := 0, frame := .outside }))
      ∧ (∀ n,
          let s := Spec.boundary before (.front n)
          let u := Spec.cleared s (.front n)
          let next := exec (.linkCut (.front n)) before
          ((s.front.get n).rx.link = .live → (s.front.get n).rx.frame = .outside →
            next = .next (u.bump (.link .unframedCodes n)))
          ∧ (Spec.receiving s (.front n) →
            next = .next ((Spec.frameLeaves u n .outside).bump (.link .cutEnded n))))
      ∧ (let s := Spec.boundary before .timing
         let next := exec (.linkCut .timing) before
         (s.timing.link = .live → s.timing.frame = .outside → next = .next (Spec.cleared s .timing))
         ∧ (Spec.receiving s .timing →
           next = .next ({ s with timing := Spec.frameOver s.timing .outside }.bump (.part .timingFrameDiscarded))))
      ∧ (let s := before
         let next := exec (.linkCut .uplink) before
         (s.uplink.link = .live → s.uplink.frame = .outside →
           next = .next ((Spec.cleared s .uplink).bump (.part .uplinkUnframedCodes)))
         ∧ (Spec.receiving s .uplink →
           next =
             .next
               (({ s with uplink := Spec.frameOver s.uplink .outside }.bump
                 (.part .requestFramesDiscarded)).addError .requestDropped)))

/-- A code error takes an ALIGNING receiver to DARK. In LIVE, before the fourth consecutive one, it raises the count, is
counted on a front link and on the uplink, and discards a frame in RECEIVING (R58, R76, R77, R82, R165). What a receiver's
word list, CRC and timer hold outside a frame, and that a word boundary of the lane falls before the code, is the model's choice
(log entries 16 and 4). -/
def Obligations.CodeErrorsAreCounted : Prop :=
  ∀ before : State,
    (∀ l,
      let s := Spec.boundary before l
      (s.rx l).link = .aligning → exec (.linkCodeError l) before = .next (s.setRx l { s.rx l with link := .dark }))
      ∧ (∀ n,
          let s := Spec.boundary before (.front n)
          let f := s.front.get n
          let b := s.bump (.link .codeErrors n)
          let d := Spec.frontDiscard b n .discarding .crcErrors .frontCrc
          let next := exec (.linkCodeError (.front n)) before
          f.rx.link = .live → f.rx.codeErrors < 3 →
            (f.rx.frame ≠ .receiving →
              next = .next (b.setFront n { f with rx := { f.rx with codeErrors := f.rx.codeErrors + 1 } }))
            ∧ (f.rx.frame = .receiving →
              next =
                .next
                  (d.setFront n
                    { d.front.get n with rx := { (d.front.get n).rx with codeErrors := f.rx.codeErrors + 1 } })))
      ∧ (let s := Spec.boundary before .timing
         let next := exec (.linkCodeError .timing) before
         s.timing.link = .live → s.timing.codeErrors < 3 →
           (s.timing.frame ≠ .receiving →
             next = .next { s with timing := { s.timing with codeErrors := s.timing.codeErrors + 1 } })
           ∧ (s.timing.frame = .receiving →
             next =
               .next
                 ({ s with
                     timing :=
                       { Spec.frameOver s.timing .discarding with codeErrors := s.timing.codeErrors + 1 } }.bump
                   (.part .timingFrameDiscarded))))
      ∧ (let s := before
         let b := s.bump (.part .uplinkCodeErrors)
         let next := exec (.linkCodeError .uplink) before
         s.uplink.link = .live → s.uplink.codeErrors < 3 →
           (s.uplink.frame ≠ .receiving →
             next = .next { b with uplink := { s.uplink with codeErrors := s.uplink.codeErrors + 1 } })
           ∧ (s.uplink.frame = .receiving →
             next =
               .next
                 (({ b with
                     uplink :=
                       { Spec.frameOver s.uplink .discarding with codeErrors := s.uplink.codeErrors + 1 } }.bump
                   (.part .requestCrcErrors)).addError .requestDropped)))

/-- The fourth consecutive code error loses lock: DARK, OUTSIDE, and on a front link the lock losses counter, LINK_LOST and
the loss notice, delivered at once without a waiting frame and PENDING with one (R77, R92); on the timing link R59; on the
uplink R168, with the frame in progress closed by CUT, an event frame's slot freed with its remaining cells, and every reply
dropped. A frame found in RECEIVING would have been discarded first (R82). The model's choices and readings: the code error count is
0 after the loss (log entry 10); a notice that is not NONE, which no run brings to a LIVE link, stays (log entry 19); an abort
evaluates the flow state after the cells are back and again after fill has fallen (log entry 18); an abandoned reply shows its START
and CUT only (log entry 5); an event frame is closed with CUT also after its CRC word (log entry 25); the idle emitter's position, header
and CRC (log entry 16); and the word boundary before the code (log
entry 4). -/
def Obligations.FourthCodeErrorLosesLock : Prop :=
  ∀ before : State,
    (∀ n,
      let s := Spec.boundary before (.front n)
      let f := s.front.get n
      let down := { f with rx := { f.rx with link := .dark, codeErrors := 0, frame := .outside } }
      let b := ((s.bump (.link .codeErrors n)).bump (.link .lockLosses n)).addError .linkLost
      let next := exec (.linkCodeError (.front n)) before
      f.rx.link = .live → f.rx.codeErrors = 3 → f.rx.frame ≠ .receiving →
        (f.notice = .none → f.waiting = [] →
          next = .next ((b.setFront n { down with notice := .delivered }).lossNotice n))
        ∧ (f.notice = .none → f.waiting ≠ [] → next = .next (b.setFront n { down with notice := .pending }))
        ∧ (f.notice ≠ .none → next = .next (b.setFront n down)))
      ∧ (let s := Spec.boundary before .timing
         s.timing.link = .live → s.timing.codeErrors = 3 → s.timing.frame ≠ .receiving →
           exec (.linkCodeError .timing) before =
             .next
               (({ s with timing := { s.timing with link := .dark, codeErrors := 0, frame := .outside } }.bump
                 (.part .timingLinkLosses)).addError .timingLost))
      ∧ (let s := before
         let b := (({ s with
           uplink := { s.uplink with link := .dark, codeErrors := 0, frame := .outside }, farmFlow := .go }.bump
             (.part .uplinkCodeErrors)).bump (.part .uplinkLosses)).addError .uplinkLost
         let cut := { b with emitter := ⟨.none, false, .header 0, [], 0xFFFF⟩ }.emit .uplink .cut
         let dropped (t : State) : State :=
           { t.bumpBy (.part .repliesDropped) s.replies.length with replies := [] }
         let next := exec (.linkCodeError .uplink) before
         s.uplink.link = .live → s.uplink.codeErrors = 3 → s.uplink.frame ≠ .receiving →
           (s.emitter.frame = .none → next = .next (dropped b))
           ∧ (s.emitter.frame = .reply → next = .next (dropped cut))
           ∧ (s.emitter.frame = .event →
               let v := Spec.cellsBack cut (s.slots.get s.get).cells
               next =
                 .next
                   (dropped
                     ({ v with
                         slots := s.slots.set s.get Slot.empty
                         deadlines := s.deadlines.set s.get Deadline.empty
                         get := s.get + 1
                         fill := s.fill - 1 }.evalTiming.bump (.part .emissionAborted)))))

/-- The stall timer of a frame in RECEIVING that is due discards the frame, with the counter and cause of its lane, and
leaves the receiver DISCARDING (R58, R84, R85, R165). That the expiry of a timer which is not due changes nothing is the model's choice
(log entry 2), and so is what a receiver's word list, CRC and timer hold outside a frame (log entry 16). -/
def Obligations.StalledFramesAreDiscarded : Prop :=
  ∀ s : State,
    (∀ n, (s.front.get n).rx.frame = .receiving → (s.front.get n).rx.stall = some s.timebase →
      exec (.frontStallExpiry n) s = .next (Spec.frontDiscard s n .discarding .stall .frontStall))
      ∧ (s.timing.frame = .receiving → s.timing.stall = some s.timebase →
          exec .timingStallExpiry s =
            .next
              ({ s with
                  timing := { Spec.frameOver s.timing .discarding with codeErrors := s.timing.codeErrors } }.bump
                (.part .timingFrameDiscarded)))
      ∧ (s.uplink.frame = .receiving → s.uplink.stall = some s.timebase →
          exec .requestStallExpiry s =
            .next
              (({ s with
                  uplink := { Spec.frameOver s.uplink .discarding with codeErrors := s.uplink.codeErrors } }.bump
                (.part .requestFramesDiscarded)).addError .requestDropped))
      ∧ (∀ n, (s.front.get n).rx.stall ≠ some s.timebase → exec (.frontStallExpiry n) s = .next s)
      ∧ (s.timing.stall ≠ some s.timebase → exec .timingStallExpiry s = .next s)
      ∧ (s.uplink.stall ≠ some s.timebase → exec .requestStallExpiry s = .next s)

/-! ### Trigger intake -/

/-- The END of a timing frame that brings no admission: a frame that is not a trigger message is counted and discarded (R57,
R58); a trigger message outside RUNNING is ignored and counted (R60); one that fails a check of R61 is refused, the first
failing check deciding the counter and the cause, with the effects of R65 and R52. What a receiver's word list, CRC and
timer hold outside a frame, and that a word boundary of the lane falls before the code, is the model's choice (log entries 16 and
4). -/
def Obligations.TriggersAreDiscardedIgnoredOrRefused : Prop :=
  ∀ before : State,
    let s := Spec.boundary before .timing
    let u := { s with timing := Spec.frameOver s.timing .outside }
    (s.timing.link = .live → s.timing.frame = .outside → exec (.linkEnd .timing) before = .next (Spec.cleared s .timing))
      ∧ (s.timing.link = .live → s.timing.frame = .discarding →
          exec (.linkEnd .timing) before = .next { s with timing := { s.timing with codeErrors := 0, frame := .outside } })
      ∧ (Spec.receiving s .timing → s.timing.words.length ≠ 6 ∨ Spec.crcFails s.timing.words →
          exec (.linkEnd .timing) before = .next (u.bump (.part .timingFrameDiscarded)))
      ∧ ∀ tag cls hi mid lo : Word,
          let k : ClassNo := Fin.ofNat 8 cls.toNat
          let gone := s.orphans.filter (fun o => decide (o.tag = tag))
          let fewer :=
            Spec.cellsBack
              (gone.foldl (fun t o => Spec.stray t o.link)
                { u with
                  pendingSkipped := min 65535 (s.pendingSkipped + 1)
                  orphans := s.orphans.filter (fun o => decide (o.tag ≠ tag)) })
              (gone.flatMap Orphan.cells)
          Spec.receiving s .timing →
          s.timing.words = [tag, cls, hi, mid, lo, crcOf [tag, cls, hi, mid, lo]] →
            (s.runState ≠ .running → exec (.linkEnd .timing) before = .next (u.bump (.part .triggerOutsideRun)))
            ∧ (s.runState = .running → (s.classes.get k).kind = .disabled →
              exec (.linkEnd .timing) before = .next ((fewer.bump (.part .refusedDisabled)).addError .triggerRefused))
            ∧ (s.runState = .running → (s.classes.get k).kind ≠ .disabled → ¬ Spec.unmatched s tag →
              exec (.linkEnd .timing) before = .next ((fewer.bump (.part .refusedDuplicate)).addError .triggerDuplicate))
            ∧ (s.runState = .running → (s.classes.get k).kind ≠ .disabled → Spec.unmatched s tag →
                (s.classes.get k).admission ≤ s.fill →
              exec (.linkEnd .timing) before = .next ((fewer.bump (.refusedLevel k)).addError .triggerRefused))

/-- The END of a trigger message that passes the three checks admits it: the slot at put opens with its contributions, the
deadline starts at admission plus T1, the pending skipped count moves into the slot, put and fill advance, and the newest
admitted tag follows (R7, R8, R31, R66); the orphans of the tag leave the list, oldest first, each for the adoption queue as an expected
entry or an extra candidate, or as a duplicate (R49); then the ALL_IN check is made (R20), and the counter of the class rises. What a
receiver's word list, CRC and timer hold outside a frame is the model's choice (log entry 16), and so are the flow decisions after
each change of the one event (log entry 18) and the word boundary before the code (log entry 4). -/
def Obligations.TriggersAreAdmitted : Prop :=
  ∀ (before : State) (tag cls hi mid lo : Word),
    let s := Spec.boundary before .timing
    let k : ClassNo := Fin.ofNat 8 cls.toNat
    let c := s.classes.get k
    let contribs : Bank (Option Contribution) 24 := Bank.build (fun n =>
      if c.expected.getLsbD n.val = true then
        (if (s.front.get n).rx.link = .live then some .awaited else some .absent)
      else none)
    let x : Slot :=
      { state := .opened, tag := tag, cls := k, stamp := hi ++ mid ++ lo, skippedBefore := s.pendingSkipped,
        contribs := contribs, extras := Bank.fill 24 none, records := Bank.fill 24 none, cause := .none,
        status := .none, late := 0, duplicate := 0 }
    let d : Deadline := ⟨.first, s.timebase, Spec.inMicroseconds s c.t1⟩
    let opened :=
      { s with
        timing := Spec.frameOver s.timing .outside, slots := s.slots.set s.put x, deadlines := s.deadlines.set s.put d,
        pendingSkipped := 0, put := s.put + 1, fill := s.fill + 1, newestTag := some tag }.evalTiming
    let met := s.orphans.filter (fun o => decide (o.tag = tag))
    let adopted :=
      met.foldl (Spec.adopts s.put) { opened with orphans := s.orphans.filter (fun o => decide (o.tag ≠ tag)) }
    let t := (Spec.tested adopted s.put).bump (.admitted k)
    let y := t.slots.get s.put
    Spec.receiving s .timing →
    s.timing.words = [tag, cls, hi, mid, lo, crcOf [tag, cls, hi, mid, lo]] →
    s.runState = .running → c.kind ≠ .disabled → Spec.unmatched s tag → s.fill < c.admission →
      exec (.linkEnd .timing) before = .next t
        ∧ (met = [] → Spec.allIn x → t = (Spec.closes opened s.put .allIn).bump (.admitted k))
        ∧ (met = [] → ¬ Spec.allIn x → t = opened.bump (.admitted k))
        ∧ t.newestTag = some tag ∧ t.pendingSkipped = 0 ∧ t.put = s.put + 1 ∧ t.fill = s.fill + 1
        ∧ t.orphans = s.orphans.filter (fun o => decide (o.tag ≠ tag))
        ∧ y.tag = tag ∧ y.cls = k ∧ y.stamp = hi ++ mid ++ lo ∧ y.skippedBefore = s.pendingSkipped
        ∧ (∀ n, y.contribs.get n =
            if (∃ o ∈ s.orphans, o.tag = tag ∧ o.link = n) ∧ x.contribs.get n ≠ none then some .queued
            else x.contribs.get n)
        ∧ (if Spec.allIn (adopted.slots.get s.put) then
            y = Spec.closed (adopted.slots.get s.put) .allIn ∧ t.deadlines.get s.put = { d with stage := .none }
          else y = adopted.slots.get s.put ∧ y.state = .opened ∧ t.deadlines.get s.put = d)
        ∧ (∃ more, t.adoption = s.adoption ++ more
            ∧ ∀ e ∈ more, e.slot = s.put ∧ e.tag = tag ∧ (∃ o ∈ met, o.link = e.link ∧ o.cells = e.cells)
              ∧ (e.expected = true ↔ x.contribs.get e.link ≠ none))
        ∧ ∀ i, i ≠ s.put → t.slots.get i = s.slots.get i ∧ t.deadlines.get i = s.deadlines.get i

/-! ### Deadlines and orphans -/

/-- The first deadline of an OPEN slot, when due, extends the slot if 1 ≤ a ≤ straggler limit and T2 > 0, and else closes it with
FIRST_DEADLINE (R32, R33); the second deadline of an EXTENDED slot, when due, closes it with SECOND_DEADLINE (R34). The
oldest orphan entry that is due leaves the list as stray, is counted as expired, and its cells are returned (R48). That an expiry
which is not due changes nothing is the model's choice (log entry 2). -/
def Obligations.ExpiriesExtendCloseOrDrop : Prop :=
  (∀ (s : State) (i : SlotNo),
    let x := s.slots.get i
    let d := s.deadlines.get i
    let c := s.classes.get x.cls
    let a := Spec.awaitedCount x
    (x.state = .opened → d.stage = .first → d.expiry = s.timebase →
      (1 ≤ a ∧ a ≤ c.stragglers ∧ 0 < c.t2 →
        exec (.firstExpiry i) s =
          .next
            ({ s with
                slots := s.slots.set i { x with state := .extended }
                deadlines :=
                  s.deadlines.set i
                    { d with stage := .second, expiry := d.admitted + BitVec.ofNat 32 (c.t1 + c.t2) } }.bump
              (.part .extensions)))
      ∧ (a = 0 ∨ c.stragglers < a ∨ c.t2 = 0 →
        exec (.firstExpiry i) s = .next ((Spec.closes s i .firstDeadline).bump (.part .firstDeadlineClosures))))
    ∧ (x.state = .extended → d.stage = .second → d.expiry = s.timebase →
        exec (.secondExpiry i) s = .next ((Spec.closes s i .secondDeadline).bump (.part .secondDeadlineClosures)))
    ∧ (x.state ≠ .opened ∨ d.stage ≠ .first ∨ d.expiry ≠ s.timebase → exec (.firstExpiry i) s = .next s)
    ∧ (x.state ≠ .extended ∨ d.stage ≠ .second ∨ d.expiry ≠ s.timebase → exec (.secondExpiry i) s = .next s))
    ∧ (∀ s : State, (∀ o ∈ s.orphans, o.parkTime + BitVec.ofNat 32 s.general.parkTime ≠ s.timebase) →
        exec .orphanExpiry s = .next s)
    ∧ ∀ (s : State) (o : Orphan) (before later : List Orphan),
        s.orphans = before ++ o :: later → o.parkTime + BitVec.ofNat 32 s.general.parkTime = s.timebase →
        (∀ p ∈ before, p.parkTime + BitVec.ofNat 32 s.general.parkTime ≠ s.timebase) →
          exec .orphanExpiry s =
            .next
              (Spec.cellsBack ((Spec.stray { s with orphans := before ++ later } o.link).bump (.part .orphansExpired))
                o.cells)

/-! ### The arbiter and the lookup at the grant -/

/-- The requester a grant goes to requests, is urgent if any urgent front link requests, and is the first such in rotation
order; and there is none only when nothing requests (R109 to R111). While a job is in progress no grant is made (R114); that a grant
commanded then, or where nothing requests, changes nothing is the model's choice (log entry 2). -/
def Obligations.ArbiterChoosesInRotation : Prop :=
  ∀ s : State,
    (s.chosen = none ↔ ∀ r, ¬ Spec.requests s r)
      ∧ (∀ b, s.job ≠ none ∨ (∀ r, ¬ Spec.requests s r) → exec (.arbiterGrant b) s = .next s)
      ∧ ∀ r, s.chosen = some r →
          Spec.requests s r
            ∧ (∀ q, Spec.requests s q → Spec.urgent s q → Spec.urgent s r ∧ Spec.place s r ≤ Spec.place s q)
            ∧ ((∀ q, Spec.requests s q → ¬ Spec.urgent s q) →
                ∀ q, Spec.requests s q → Spec.place s r ≤ Spec.place s q)

/-- A granted front frame whose tag a slot carries: conditioned for the slot or as an extra, or dropped as a duplicate in an
OPEN or EXTENDED slot, and late in any other (R9, R10, R12, R13, R87, R113). -/
def Obligations.GrantMeetsItsSlot : Prop :=
  ∀ (s : State) (b : Bool) (n : LinkNo) (frame : List Word) (rest : List (List Word)) (i : SlotNo),
    let tag := frame.getD 1 0
    let x := s.slots.get i
    let v := Spec.granted s n frame rest
    let job := Spec.conditioningJob s n.castSucc n .fifo i tag (Spec.startFlags (frame.getD 2 0) false)
    Spec.grants s n frame rest → Spec.matching s tag i →
      (Spec.isOpen x → x.contribs.get n = some .awaited ∨ x.contribs.get n = some .lost ∨ x.contribs.get n = some .absent →
        exec (.arbiterGrant b) s =
          .next { v.setSlot i { x with contribs := x.contribs.set n (some .conditioning) } with job := some job })
      ∧ (Spec.isOpen x → x.contribs.get n = none → x.extras.get n = none →
        exec (.arbiterGrant b) s =
          .next { v.setSlot i { x with extras := x.extras.set n (some .conditioning) } with job := some job })
      ∧ (Spec.isOpen x →
          x.contribs.get n = some .queued ∨ x.contribs.get n = some .conditioning ∨ x.contribs.get n = some .arrived
            ∨ (x.contribs.get n = none ∧ x.extras.get n ≠ none) →
        exec (.arbiterGrant b) s = .next (Spec.frameGone (Spec.duplicateAt v i n) n))
      ∧ (¬ Spec.isOpen x → exec (.arbiterGrant b) s = .next (Spec.frameGone (Spec.lateAt v i n) n))

/-- A granted front frame whose tag no slot carries: late, stray or parked by the table of R43, and a park refused at a full
list or for cells, or started with its cells taken at the grant (R43, R44, R46). -/
def Obligations.UnmatchedFragmentsAreParkedOrDropped : Prop :=
  ∀ (s : State) (b : Bool) (n : LinkNo) (frame : List Word) (rest : List (List Word)),
    let tag := frame.getD 1 0
    let w := frame.length - 1
    let v := Spec.granted s n frame rest
    let parks := s.newestTag = none
      ∨ ∃ t, s.newestTag = some t ∧ 1 ≤ (tag - t).toNat ∧ (tag - t).toNat ≤ s.general.lookAhead
    Spec.grants s n frame rest → Spec.unmatched s tag → s.general.lookAhead ≤ 255 →
      (s.runState ≠ .running → exec (.arbiterGrant b) s = .next (Spec.frameGone (Spec.stray v n) n))
      ∧ (∀ t, s.runState = .running → s.newestTag = some t → (tag - t).toNat = 0 ∨ 32768 ≤ (tag - t).toNat →
        exec (.arbiterGrant b) s = .next (Spec.frameGone (Spec.lateAlone v n) n))
      ∧ (∀ t, s.runState = .running → s.newestTag = some t → s.general.lookAhead < (tag - t).toNat →
          (tag - t).toNat < 32768 →
        exec (.arbiterGrant b) s = .next (Spec.frameGone (Spec.stray v n) n))
      ∧ (s.runState = .running → parks → 16 ≤ s.orphans.length →
        exec (.arbiterGrant b) s = .next (Spec.frameGone ((Spec.stray v n).bump (.part .parkRefusedListFull)) n))
      ∧ (s.runState = .running → parks → s.orphans.length < 16 → s.freeQueue.length < Spec.cellsOf w →
        exec (.arbiterGrant b) s =
          .next
            (Spec.frameGone
              (((Spec.stray v n).bump (.part .parkRefusedStoreFull)).addError .storeExhausted) n))
      ∧ (s.runState = .running → parks → s.orphans.length < 16 → Spec.cellsOf w ≤ s.freeQueue.length →
        exec (.arbiterGrant b) s =
          .next
            { Spec.cellsTaken v (Spec.cellsOf w) with
              job := some
                { Spec.conditioningJob s n.castSucc n .fifo 0 tag (Spec.startFlags 0 false) with
                  outcome := .park, cells := s.freeQueue.take (Spec.cellsOf w), wordCount := w, position := 0 } })

/-- The grant of the adoption queue: the entry at the head is conditioned for its slot, whatever that slot's state, if it is an
expected one, and as an extra, duplicate or late if it is an extra candidate; an entry whose slot is FREE or carries
another tag is late against its link alone (R11, R50, R51). The clauses ask neither that an expected entry's contribution is QUEUED and
its slot OPEN, EXTENDED or CLOSING, which holds in every run (log entry 19), nor that an extra candidate's link is outside the
expected set of the slot it meets: where a later slot reuses both its slot and its tag and expects the link, the candidate is still
taken as an extra (log entry 22). -/
def Obligations.AdoptedCopiesMeetTheirSlot : Prop :=
  ∀ (s : State) (b : Bool) (e : Adopted) (rest : List Adopted),
    let x := s.slots.get e.slot
    let v := { s with rotation := 24, adoption := rest }
    let flags := Spec.startFlags (Memory.read 0 s.store (e.cells.getD 0 0 * 64 + 2)) true
    let job := Spec.conditioningJob s 24 e.link (.copy e.cells e.wordCount) e.slot e.tag flags
    s.job = none → s.chosen = some 24 → s.adoption = e :: rest → 3 ≤ e.wordCount →
      (x.state ≠ .free → x.tag = e.tag →
        (e.expected = true →
          exec (.arbiterGrant b) s =
            .next { v.setSlot e.slot { x with contribs := x.contribs.set e.link (some .conditioning) } with
              job := some job })
        ∧ (e.expected = false → Spec.isOpen x → x.extras.get e.link = none →
          exec (.arbiterGrant b) s =
            .next { v.setSlot e.slot { x with extras := x.extras.set e.link (some .conditioning) } with
              job := some job })
        ∧ (e.expected = false → Spec.isOpen x → x.extras.get e.link ≠ none →
          exec (.arbiterGrant b) s = .next (Spec.cellsBack (Spec.duplicateAt v e.slot e.link) e.cells))
        ∧ (e.expected = false → ¬ Spec.isOpen x →
          exec (.arbiterGrant b) s = .next (Spec.cellsBack (Spec.lateAt v e.slot e.link) e.cells)))
      ∧ (x.state = .free ∨ x.tag ≠ e.tag →
        exec (.arbiterGrant b) s = .next (Spec.cellsBack (Spec.lateAlone v e.link) e.cells))

/-- The grant of the last waiting frame of a link that is not LIVE delivers its PENDING notice (R92). Taken first, the notice turns the
link's AWAITED contributions to LOST and closes what is then ALL_IN (R23), and the frame meets what it leaves; taken second, it
meets the slots as the grant leaves them (R24). Either way no OPEN or EXTENDED slot has the link AWAITED afterwards. Both orders are in the
model by the operand of the command (log entry 8). -/
def Obligations.LastGrantDeliversThePendingNotice : Prop :=
  ∀ (s : State) (n : LinkNo) (frame : List Word),
    let delivered := s.setFront n { s.front.get n with notice := .delivered }
    s.job = none → s.chosen = some n.castSucc → (s.front.get n).waiting = [frame] →
    (s.front.get n).notice = .pending → (s.front.get n).rx.link ≠ .live →
      (∃ t, exec (.arbiterGrant true) s = .next t ∧ exec (.arbiterGrant true) (delivered.lossNotice n) = .next t)
      ∧ (∃ u, exec (.arbiterGrant false) delivered = .next u ∧ exec (.arbiterGrant false) s = .next (u.lossNotice n))
      ∧ ∀ b, ∃ t, exec (.arbiterGrant b) s = .next t ∧ (t.front.get n).notice = .delivered ∧ (t.front.get n).waiting = []
        ∧ t.rotation = n.castSucc
        ∧ ∀ i, Spec.isOpen (t.slots.get i) → (t.slots.get i).contribs.get n ≠ some .awaited

/-! ### Conditioning -/

/-- The bursts that write nothing: a malformed one stops the job with its flag, counter and cause; an unmapped one is dropped
with its flag and counter; one of a MASKED pad, or of an ACTIVE pad in a PHYSICS slot with no sample over, is passed
without either (R98 to R100, R117 to R119, R123). That a burst in a slot of a DISABLED class, which no run has, is passed in the same
way is the model's choice (log entry 12), and so is that BURST_PROCESSING changes nothing where no burst remains: without a
conditioning job, after processing has stopped, and at the end of the source (log entry 2). -/
def Obligations.BurstsThatWriteNothing : Prop :=
  (∀ s : State,
    s.job = none
      ∨ (∃ j, s.job = some j
          ∧ (j.outcome = .park ∨ j.stopped = true ∨ (Spec.sourceOf s j).length ≤ j.position)) →
      exec .burstProcessing s = .next s)
  ∧ ∀ (s : State) (j : Job) (i : SlotNo) (ws : List Word),
    let next := j.position + 3 + Spec.burstCount ws
    let channel := (ws.getD 0 0).toNat
    Spec.bursting s j i ws →
      (Spec.malformed ws →
        exec .burstProcessing s =
          .next
            { (s.bump (.link .malformed j.link)).addError .frontMalformed with
              job := some { j with stopped := true, flags := { j.flags with malformed := true } } })
      ∧ (¬ Spec.malformed ws → (∀ k, ¬ Spec.covers (s.windows.get k) j.link channel) →
        exec .burstProcessing s =
          .next
            { s.bump (.link .unmapped j.link) with
              job := some { j with position := next, flags := { j.flags with unmapped := true } } })
      ∧ ∀ place, ¬ Spec.malformed ws → Spec.placed s j.link channel place →
          let pad := Memory.read Pad.cold s.pads place.flat
          (pad.mode = .masked ∨ (Spec.classOfSlot s i).kind = .disabled →
            exec .burstProcessing s = .next { s with job := some { j with position := next } })
          ∧ (pad.mode = .active → (Spec.classOfSlot s i).kind = .physics →
              (∀ raw ∈ Spec.burstRaws ws, raw < 1023 ∧ correct pad.pedestal pad.gain raw < pad.threshold) →
            exec .burstProcessing s = .next { s with job := some { j with position := next } })

/-- A burst on a mapped channel: a PEDESTAL burst meets the accumulator; then its pulses, those of suppression or the whole burst as one,
are clipped to the drift window and written one after another (R119, R122, R125 to R130). A sample outside the window goes, and
flags the pulse and the fragment CLIPPED; the pulse's start bin and SATURATED are those of the samples kept, and a pulse that keeps
none goes whole. A pulse is refused for the cell limit or for want of free cells, and leaves the rest of the burst unprocessed, or is
written whole at the end of the chain, in cells taken from the front of the free queue, which lowers the low mark (R138, R144). And
where a burst gives one pulse that is written, its words are read back after those written before, and no word outside the job's
cells has changed. That a refused pulse still flags the fragment CLIPPED is the model's reading (log entry 11). -/
def Obligations.BurstsWriteTheirPulse : Prop :=
  ∀ (s : State) (j : Job) (i : SlotNo) (ws : List Word) (place : Place),
    let c := Spec.classOfSlot s i
    let pad := Memory.read Pad.cold s.pads place.flat
    let t := Spec.treatment pad.mode c.kind
    let pulses := Spec.pulses t c pad (Spec.treated s j pad t ws)
    let start := Spec.delivered s { j with position := j.position + 3 + Spec.burstCount ws } c place t ws
    let done := pulses.foldl (Spec.meetsPulse c place t) start
    Spec.bursting s j i ws → ¬ Spec.malformed ws → Spec.placed s j.link (ws.getD 0 0).toNat place →
      exec .burstProcessing s = .next { done.1 with job := some done.2 }
      ∧ ∀ p,
          let words := Spec.pulseWords c place t p
          let need := Spec.needed j words.length
          pulses = [p] → Spec.keptOf c p ≠ [] → need = 0 ∨ j.cells.length + need ≤ c.cellLimit →
          need ≤ s.freeQueue.length → Spec.cellsOf j.wordCount = j.cells.length → (j.cells ++ s.freeQueue).Nodup →
          MemoriesCanonical s →
            let u := { done.1 with job := some done.2 }
            done.2 = Spec.wroteJob s (Spec.clippedJob c start.2 p) words.length
            ∧ u.freeQueue = s.freeQueue.drop need
            ∧ u.lowMark = (if need = 0 then s.lowMark else min s.lowMark (s.freeQueue.length - need))
            ∧ Spec.chainWords u done.2.cells done.2.wordCount = Spec.chainWords s j.cells j.wordCount ++ words
            ∧ (∀ a, a / 64 ∉ done.2.cells → Memory.read 0 u.store a = Memory.read 0 s.store a)
            ∧ u = { start.1 with
                job := u.job, freeQueue := u.freeQueue, lowMark := u.lowMark, store := u.store,
                timingFlow := u.timingFlow, timingDue := u.timingDue }

/-- A burst of a PEDESTAL slot on a pad that is not MASKED, with the accumulator ACCUMULATING: without an urgent link at the
job's grant every raw sample is added to the pad's entry alone, saturated ones and full entries apart; with one the burst is
withheld, and the first burst a job withholds raises the pedestal skip counter (R120, R150, R151). -/
def Obligations.PedestalBurstsAreAccumulated : Prop :=
  ∀ (s : State) (j : Job) (i : SlotNo) (ws : List Word) (place : Place),
    Spec.bursting s j i ws → ¬ Spec.malformed ws → Spec.placed s j.link (ws.getD 0 0).toNat place →
    (Spec.classOfSlot s i).kind = .pedestal → (Memory.read Pad.cold s.pads place.flat).mode ≠ .masked →
    s.accState = .accumulating → MemoriesCanonical s →
      ∃ t, exec .burstProcessing s = .next t
        ∧ (j.urgent = false → ∀ k, Memory.read AccEntry.cold t.acc k =
            if k = place.flat then (Spec.burstRaws ws).foldl Spec.accumulate (Memory.read AccEntry.cold s.acc k)
            else Memory.read AccEntry.cold s.acc k)
        ∧ (j.urgent = true → t.acc = s.acc)
        ∧ t.counter (.part .pedestalSkip) =
            (if j.urgent = true ∧ j.skipCounted = false then min 4294967295 (s.counter (.part .pedestalSkip) + 1)
              else s.counter (.part .pedestalSkip))
        ∧ ∀ k, t.job = some k → k.skipCounted = (j.skipCounted || j.urgent)

/-- Correction: 1023 stays 1023; a sample at or below the pedestal gives 0; any other gives the quotient rounded half up, or 1023
where that is larger; and no corrected value is above 1023 (R121). -/
def Obligations.CorrectionRoundsHalfUp : Prop :=
  ∀ pedestal gain raw : Nat,
    correct pedestal gain 1023 = 1023 ∧ correct pedestal gain raw ≤ 1023
      ∧ (raw < 1023 → 4 * raw ≤ pedestal → correct pedestal gain raw = 0)
      ∧ (raw < 1023 → pedestal < 4 * raw →
          (1024 * correct pedestal gain raw ≤ (4 * raw - pedestal) * gain + 512)
            ∧ (correct pedestal gain raw < 1023 →
                (4 * raw - pedestal) * gain + 512 < 1024 * (correct pedestal gain raw + 1)))

/-- Suppression. A run is a maximal stretch of samples at or above the threshold or saturated; a kept run has the minimum width or more,
and its span adds the pre-samples and the post-samples, inside the burst (R123). The pulses are the kept runs' spans merged where no
more than the merge gap of samples lie between them (R124): they stand in index order inside the burst, more than the merge gap
apart; every kept run's span lies inside one; each begins where a kept run's span begins and ends where one ends; and each of its
samples is in a kept run's span or in a gap of no more than the merge gap between two. -/
def Obligations.SuppressionKeepsEveryRun : Prop :=
  ∀ (c : ClassEntry) (threshold : Nat) (xs : List Sample),
    let spans := pulseSpans c threshold xs
    let above (k : Nat) : Prop := ∃ x, xs[k]? = some x ∧ (threshold ≤ x.value ∨ x.raw = 1023)
    let kept (a e : Nat) : Prop :=
      a ≤ e ∧ (∀ k, a ≤ k → k ≤ e → above k) ∧ (a = 0 ∨ ¬ above (a - 1)) ∧ ¬ above (e + 1) ∧ c.minWidth ≤ e - a + 1
    let first (a : Nat) : Nat := a - c.preSamples
    let last (e : Nat) : Nat := min (e + c.postSamples) (xs.length - 1)
    spans.Pairwise (fun p q => p.2 + 1 + c.mergeGap < q.1)
      ∧ (∀ p ∈ spans, p.1 ≤ p.2 ∧ p.2 < xs.length)
      ∧ (∀ a e, kept a e → ∃ p ∈ spans, p.1 ≤ first a ∧ last e ≤ p.2)
      ∧ (∀ p ∈ spans, (∃ a e, kept a e ∧ p.1 = first a) ∧ ∃ a e, kept a e ∧ p.2 = last e)
      ∧ (∀ p ∈ spans, ∀ k, p.1 ≤ k → k ≤ p.2 →
          ∃ a e b f, kept a e ∧ kept b f
            ∧ ((first a ≤ k ∧ k ≤ last e) ∨ (last e < k ∧ k < first b ∧ first b ≤ last e + 1 + c.mergeGap)))
      ∧ ∀ a e, a ≤ e → e < xs.length → c.minWidth ≤ e - a + 1 → (∀ k, a ≤ k → k ≤ e → above k) →
          ∃ p ∈ spans, p.1 ≤ a ∧ e ≤ p.2

/-- The end of a conditioning job whose source is used up or that has stopped: the record is attached, the contribution ARRIVED
or the extra recorded with its flag, the slot is checked, the source leaves, and the counter rises, as one event (R15, R16,
R51, R87, R114). Until then the job goes on (R114); that CONDITIONING_JOB_END commanded before, or without a conditioning job, changes
nothing is the model's choice (log entry 2), and so is that the cells of a record which the link already has return, before those of a
raw copy (log entry 22). -/
def Obligations.ConditioningJobsEnd : Prop :=
  (∀ s : State,
    s.job = none
      ∨ (∃ j, s.job = some j
          ∧ (j.outcome = .park ∨ (j.stopped = false ∧ j.position < (Spec.sourceOf s j).length))) →
      exec .conditioningJobEnd s = .next s)
  ∧ ∀ (s : State) (j : Job) (i : SlotNo),
    let n := j.link
    let x := s.slots.get i
    let record (extra : Bool) : FragRecord :=
      { cells := j.cells, pulseCount := j.pulseCount, wordCount := j.wordCount, flags := { j.flags with extra := extra } }
    let y :=
      if x.extras.get n = some .conditioning then
        { x with extras := x.extras.set n (some .recorded), records := x.records.set n (some (record true)) }
      else { x with contribs := x.contribs.set n (some .arrived), records := x.records.set n (some (record false)) }
    let replaced := ((x.records.get n).map FragRecord.cells).getD []
    let u := Spec.cellsBack { s.setSlot i y with job := none } replaced
    let v :=
      if Spec.isOpen y ∧ Spec.allIn y then Spec.closes u i .allIn
      else if y.state = .closing ∧ ¬ Spec.waits y then u.setSlot i { y with state := .closed }
      else u
    s.job = some j → j.outcome = .condition i →
    j.stopped = true ∨ (Spec.sourceOf s j).length ≤ j.position →
      (j.source = .fifo →
        exec .conditioningJobEnd s = .next ((Spec.frameGone v n).bump (.link .fragmentsConditioned n)))
      ∧ (∀ cells w, j.source = .copy cells w →
        exec .conditioningJobEnd s = .next ((Spec.cellsBack v cells).bump (.link .fragmentsConditioned n)))

/-- The end of a park job: the frame leaves the FIFO, its words but the CRC word stand in the copy's cells, and the copy joins
the orphan list, is dropped as stray in DRAINING, or is handed over to the slot that has come to carry its tag (R45, R47,
R49). That the copy's words are written at this event, and not while the job lasts, is the model's choice (log entry 14), and so is
that PARK_JOB_END without a park job changes nothing (log entry 2). -/
def Obligations.ParkJobsEnd : Prop :=
  (∀ s : State, s.job = none ∨ (∃ j i, s.job = some j ∧ j.outcome = .condition i) → exec .parkJobEnd s = .next s)
  ∧ ∀ (s : State) (j : Job),
    let n := j.link
    let words := ((s.front.get n).held.getD []).dropLast
    let v := Spec.frameGone { Spec.chainWritten s j.cells 0 words with job := none } n
    let o : Orphan := { link := n, tag := j.tag, parkTime := s.timebase, cells := j.cells, wordCount := j.wordCount }
    let entry (i : SlotNo) (expected : Bool) : Adopted :=
      { link := n, tag := j.tag, slot := i, expected := expected, cells := j.cells, wordCount := j.wordCount }
    let parked := v.bump (.link .parked n)
    s.job = some j → j.outcome = .park → j.source = .fifo →
      (Spec.unmatched s j.tag → s.runState ≠ .draining →
        exec .parkJobEnd s = .next { parked with orphans := s.orphans ++ [o] })
      ∧ (Spec.unmatched s j.tag → s.runState = .draining →
        exec .parkJobEnd s = .next (Spec.cellsBack (Spec.stray v n) j.cells))
      ∧ (∀ i, Spec.matching s j.tag i →
          let x := s.slots.get i
          (¬ Spec.isOpen x → exec .parkJobEnd s = .next (Spec.cellsBack (Spec.lateAt parked i n) j.cells))
          ∧ (Spec.isOpen x →
              x.contribs.get n = some .awaited ∨ x.contribs.get n = some .lost ∨ x.contribs.get n = some .absent →
            exec .parkJobEnd s =
              .next
                ({ parked.setSlot i { x with contribs := x.contribs.set n (some .queued) } with
                  adoption := s.adoption ++ [entry i true] }.bump (.part .orphansAdopted)))
          ∧ (Spec.isOpen x →
              x.contribs.get n = some .queued ∨ x.contribs.get n = some .conditioning ∨ x.contribs.get n = some .arrived →
            exec .parkJobEnd s = .next (Spec.cellsBack (Spec.duplicateAt parked i n) j.cells))
          ∧ (Spec.isOpen x → x.contribs.get n = none →
            exec .parkJobEnd s =
              .next ({ parked with adoption := s.adoption ++ [entry i false] }.bump (.part .orphansAdopted))))
      ∧ (MemoriesCanonical s → j.cells.Nodup → words.length ≤ 64 * j.cells.length →
          Spec.chainWords (Spec.chainWritten s j.cells 0 words) j.cells words.length = words)

/-! ### Emission -/

/-- An event frame starts at a boundary of a LIVE uplink with an empty reply queue, the slot at get CLOSED and the farm at
GO, and not otherwise: the slot becomes EMITTING, the header is built from it, and START is sent (R159, R160, R200). Its
END, once every word has been sent and every cell returned, frees the slot, advances get, lowers fill and raises the
counters of the frame and of its status (R2, R25, R162). Until then no END is sent (R162); that EVENT_FRAME_END commanded before, or
without an event frame, and EVENT_FRAME_START without its conditions, change nothing is the model's choice (log entry 2; the hold at the
END, log entry 13). Its choices too: that the codes join the record at these events (log entry 4), and what the idle emitter's
position, header and CRC hold (log entry 16). -/
def Obligations.EventFramesStartAndEnd : Prop :=
  ∀ s : State,
    let x := s.slots.get s.get
    let ready := s.emitter.frame = .none ∧ s.uplink.link = .live ∧ s.replies = [] ∧ x.state = .closed ∧ s.farmFlow = .go
    (ready →
      exec .eventFrameStart s =
        .next
          ({ s with
              slots := s.slots.set s.get { x with state := .emitting }
              emitter := ⟨.event, false, .header 0, Spec.headerWords s x, 0xFFFF⟩ }.emit .uplink .start))
    ∧ (¬ ready → exec .eventFrameStart s = .next s)
    ∧ (s.emitter.frame ≠ .event ∨ s.emitter.held = true ∨ s.emitter.position ≠ .endNext →
        exec .eventFrameEnd s = .next s)
    ∧ ∀ status counter,
        (status, counter) ∈
          [(Status.complete, PartCounter.sentComplete), (.partly, .sentPartial), (.flushed, .sentFlushed)] →
        s.emitter.frame = .event → s.emitter.held = false → s.emitter.position = .endNext → x.status = status →
        (∀ n r, x.records.get n = some r → r.cells = []) →
          exec .eventFrameEnd s =
            .next
              (({ s with
                  emitter := ⟨.none, false, .header 0, [], 0xFFFF⟩
                  out := s.out ++ [(Lane.uplink, LaneCode.endCode)]
                  slots := s.slots.set s.get Slot.empty
                  deadlines := s.deadlines.set s.get Deadline.empty
                  get := s.get + 1
                  fill := s.fill - 1 }.evalTiming.bump (.part .eventFramesSent)).bump (.part counter))

/-- One word of an event frame: the word at the position is sent and joins the CRC, the position advances, and the first cell
of the section's record returns to the store exactly when the word is the cell's last held word (R141, R157, R163). That
EVENT_FRAME_WORD_SENT without an event frame, while it is held, or after its CRC word changes nothing is the model's choice
(log entries 2 and 13). -/
def Obligations.EventWordsReturnTheirCells : Prop :=
  (∀ s : State, s.emitter.frame ≠ .event ∨ s.emitter.held = true ∨ s.emitter.position = .endNext →
    exec .eventFrameWordSent s = .next s)
  ∧ (∀ (s : State) (x : Slot) (p : Position), s.eventWord x p = none ↔ p = .endNext)
  ∧ ∀ (s : State) (w : Word),
    let x := s.slots.get s.get
    let p := s.emitter.position
    let v :=
      { s with emitter := { s.emitter with position := x.nextPosition p, crc := crcWord s.emitter.crc w } }.emit .uplink
        (.data w)
    s.emitter.frame = .event → s.emitter.held = false → s.eventWord x p = some w →
      ((∀ n k, p ≠ .sect n k) → exec .eventFrameWordSent s = .next v)
      ∧ (∀ n k r, p = .sect n k → x.records.get n = some r →
          (4 ≤ k ∧ ((k - 4) % 64 = 63 ∨ k - 3 = r.wordCount) →
            exec .eventFrameWordSent s =
              .next
                (Spec.cellsBack (v.setSlot s.get { x with records := x.records.set n (some { r with cells := r.cells.drop 1 }) })
                  (r.cells.take 1)))
          ∧ (¬ (4 ≤ k ∧ ((k - 4) % 64 = 63 ∨ k - 3 = r.wordCount)) →
            exec .eventFrameWordSent s = .next v))

/-- A whole event frame: from its start, the words sent one after another and its END put on the uplink START, the header, the
sections in ascending link order, the trailer, the CRC of them all and END, and leave the slot FREE, get advanced, and
every cell of the slot at the back of the free queue in the order sent (R141, R157, R160 to R163, R200). That the codes join the record
at their events (log entry 4), and that a link that is ARRIVED and a recorded extra at once has one section, although the section count
of the header counts it in both sets (log entry 22), is the model's choice. -/
def Obligations.EventFrameIsSentWhole : Prop :=
  ∀ s : State,
    let x := s.slots.get s.get
    let words := Spec.frameWords s x
    let t := Spec.after
      ([.eventFrameStart] ++ List.replicate (words.length + 1) .eventFrameWordSent ++ [.eventFrameEnd]) s
    s.emitter.frame = .none → s.uplink.link = .live → s.replies = [] → x.state = .closed → s.farmFlow = .go →
    (∀ n, x.records.get n ≠ none ↔ Spec.hasSection x n) →
    (∀ n r, x.records.get n = some r → chainFits r.cells r.wordCount) →
      Spec.uplinkOut t = Spec.uplinkOut s ++ [.start] ++ (words ++ [crcOf words]).map .data ++ [.endCode]
        ∧ t.slots.get s.get = Slot.empty ∧ (∀ i, i ≠ s.get → t.slots.get i = s.slots.get i)
        ∧ t.get = s.get + 1 ∧ t.fill = s.fill - 1 ∧ t.emitter.frame = .none
        ∧ t.freeQueue = s.freeQueue ++ x.cells ∧ t.store = s.store

/-- Replies go first: at a boundary of a LIVE uplink the reply at the head starts, whatever the farm flow state; its END
leaves the reply's words, their CRC and END on the uplink, takes it from the queue and counts it (R157, R159, R164, R167,
R199). That the START joins the record at its event and the words at the END is the model's choice (log entries 4 and 5). What the idle
emitter's position, header and CRC hold is the model's choice (log entry 16), and so is that REPLY_FRAME_END without a reply frame and
REPLY_FRAME_START without its conditions change nothing (log entry 2). The nine result codes are those of R199. -/
def Obligations.RepliesAreSentInOrder : Prop :=
  [Result.done, .clamped, .locked, .badState, .badSpace, .badIndex, .badLength, .badSetup, .readOnly].map Result.code =
    [0, 1, 2, 3, 4, 5, 6, 7, 8]
  ∧ (∀ s : State, s.replies = [] → exec .replyFrameStart s = .next s)
  ∧ (∀ s : State, s.emitter.frame ≠ .reply ∨ s.replies = [] → exec .replyFrameEnd s = .next s)
  ∧ ∀ (s : State) (r : Reply) (rest : List Reply),
    let content := [BitVec.ofNat 16 (12288 + 256 * r.result.code + r.number.toNat), r.echo1, r.echo2, r.echo3] ++ r.data
    s.replies = r :: rest →
      (s.emitter.frame = .none → s.uplink.link = .live →
        exec .replyFrameStart s =
          .next ({ s with emitter := ⟨.reply, false, .header 0, [], 0xFFFF⟩ }.emit .uplink .start))
      ∧ (s.emitter.frame ≠ .none ∨ s.uplink.link ≠ .live → exec .replyFrameStart s = .next s)
      ∧ (s.emitter.frame = .reply →
        exec .replyFrameEnd s =
          .next
            ({ s with
                emitter := ⟨.none, false, .header 0, [], 0xFFFF⟩
                replies := rest
                out := s.out ++ (content ++ [crcOf content]).map (fun w => (Lane.uplink, LaneCode.data w))
                  ++ [(Lane.uplink, LaneCode.endCode)] }.bump
              (.part .replyFramesSent)))

/-! ### Requests -/

/-- Run control takes a request only when it executes none and the reply queue has room (R166, R174). A request it takes is
checked by rows 1 to 7 of R175, the first that applies; it is then refused with that row's result, echoed, and changes nothing
but the two queues. Which command of the table a malformed request belongs to is the model's choice (log entry 3). -/
def Obligations.RequestsAreCheckedInOrder : Prop :=
  (∀ (s : State) (c : Instr),
    c ∈ [.read, .write, .writeGeneral, .writeWindows, .writeRows, .setupDone, .start, .stop, .flush, .warmReset,
      .clearCounters, .clearErrors, .barLink, .unbarLink, .pedestalStart, .pedestalStop, .pedestalAdopt,
      .undefinedRequest] →
    s.requests = [] ∨ s.executing = true ∨ 4 ≤ s.replies.length → exec c s = .next s)
    ∧ ∀ (s : State) (w0 : Word) (more : List Word) (rest : List (List Word)),
        let content := w0 :: more
        let kind := w0.toNat / 256
        let a := (more.getD 0 0).toNat
        let index := (more.getD 1 0).toNat
        let count := (more.getD 2 0).toNat
        let countBad := count = 0 ∨ 16 < count
        let entries := more.length - 3
        let size := [8, 1, 13, 6, 1, 4].getD a 0
        let refused (c : Instr) (r : Result) : Prop :=
          exec c s = .next (Spec.replied (Spec.taken s rest) content r [])
        Spec.takes s content rest →
          (kind ≠ 1 → kind ≠ 2 → kind ≠ 3 → refused .undefinedRequest .badSpace)
          ∧ (kind = 1 →
              (more.length ≠ 3 → refused .read .badLength)
              ∧ (more.length = 3 → 9 < a → refused .read .badSpace)
              ∧ (more.length = 3 → a ≤ 9 → countBad → refused .read .badLength)
              ∧ (more.length = 3 → a ≤ 9 → ¬ countBad → Spec.spaceEntries a < index + count → refused .read .badIndex))
          ∧ (kind = 2 →
              (more = [] → refused .write .badLength)
              ∧ (more ≠ [] → more.length < 3 → refused (Spec.writeCommand a) .badLength)
              ∧ (3 ≤ more.length → 9 < a → refused .write .badSpace)
              ∧ (3 ≤ more.length → a ≤ 9 → countBad → refused (Spec.writeCommand a) .badLength)
              ∧ (3 ≤ more.length → 6 ≤ a → a ≤ 9 → ¬ countBad → refused .write .readOnly)
              ∧ (3 ≤ more.length → a ≤ 5 → ¬ countBad → entries ≠ count * size →
                  refused (Spec.writeCommand a) .badLength)
              ∧ (3 ≤ more.length → a ≤ 5 → ¬ countBad → entries = count * size →
                  Spec.spaceEntries a < index + count → refused (Spec.writeCommand a) .badIndex))
          ∧ (kind = 3 →
              (more = [] → refused .undefinedRequest .badLength)
              ∧ (more ≠ [] → more.length ≠ 2 → Spec.verbCommand a = none → refused .undefinedRequest .badLength)
              ∧ (∀ c, more ≠ [] → more.length ≠ 2 → Spec.verbCommand a = some c → refused c .badLength)
              ∧ (more.length = 2 → Spec.verbCommand a = none → refused .undefinedRequest .badSpace)
              ∧ (more.length = 2 → a = 8 → 23 < index → refused .barLink .badIndex)
              ∧ (more.length = 2 → a = 9 → 23 < index → refused .unbarLink .badIndex))

/-- A READ that passes the checks is answered DONE with the entries from the index upward as they stand, and changes nothing but
the two queues (R176). The ten spaces have their numbers (R177), and each has its layout: a counter reads as its value in two words, a
LINKS entry as its offset, states, occupancy and waiting frames, a ROWS entry as its pad count and row start, a PEDESTAL entry as its
sum and count, a GENERAL, CLASSES, WINDOWS or PADS entry as its fields in order, and STATUS and a SLOTS entry by their layouts (R27,
R94, R97, R155, R179, R180, R197, R198). -/
def Obligations.ReadsReturnEntriesAsTheyStand : Prop :=
  (∀ (s : State) (number : BitVec 8) (space index count : Word) (sp : Space) (rest : List (List Word)),
    let content := Spec.readRequest number space index count
    Spec.takes s content rest → Space.ofWord space = some sp → 1 ≤ count.toNat → count.toNat ≤ 16 →
    index.toNat + count.toNat ≤ Spec.spaceEntries space.toNat →
      exec .read s =
        .next
          (Spec.replied (Spec.taken s rest) content .done
            ((List.range count.toNat).flatMap (fun k => (Spec.taken s rest).entry sp (index.toNat + k)))))
    ∧ (List.range 10).map (fun k => Space.ofWord (BitVec.ofNat 16 k)) =
        [Space.general, .links, .classes, .windows, .rows, .pads, .pedestal, .counters, .status, .slots].map some
    ∧ ∀ s : State,
        (∀ c : Counter, s.entry .counters c.entry =
          [BitVec.ofNat 16 (s.counter c / 65536), BitVec.ofNat 16 (s.counter c)])
        ∧ (∀ n : LinkNo,
            let f := s.front.get n
            s.entry .links n.val =
              [BitVec.ofInt 16 (s.offsets.get n),
                BitVec.ofNat 16 (f.rx.link.code + 4 * (if f.flow = .hold then 1 else 0) + 16 * f.notice.code),
                BitVec.ofNat 16 f.occupancy, BitVec.ofNat 16 f.waiting.length])
        ∧ (s.entry .general 0 = s.general.words ∧ s.general.words = Spec.generalWords s.general)
        ∧ (∀ k : ClassNo, s.entry .classes k.val = (s.classes.get k).words
            ∧ (s.classes.get k).words = Spec.classWords (s.classes.get k))
        ∧ (∀ i : SlotNo, s.entry .windows i.val = (s.windows.get i).words
            ∧ (s.windows.get i).words = Spec.windowWords (s.windows.get i))
        ∧ (∀ k, s.entry .pads k = (Memory.read Pad.cold s.pads k).words
            ∧ (Memory.read Pad.cold s.pads k).words = Spec.padWords (Memory.read Pad.cold s.pads k))
        ∧ (∀ r : RowNo, s.entry .rows r.val =
            [BitVec.ofNat 16 (s.rows.get r), BitVec.ofNat 16 ((s.rows.list.take r.val).sum)])
        ∧ (∀ k, s.entry .pedestal k =
            let e := Memory.read AccEntry.cold s.acc k
            [BitVec.ofNat 16 (e.sum / 65536), BitVec.ofNat 16 e.sum, BitVec.ofNat 16 e.count])
        ∧ s.entry .status 0 = Spec.statusEntry s ∧ ∀ i : SlotNo, s.entry .slots i.val = Spec.slotEntry s i

/-- A WRITE to LINKS, CLASSES or PADS that passes the checks is refused whole with BAD_STATE outside SETUP and READY, and else
stores every entry, each field clamped to its range, the answer CLAMPED exactly when a field was, and nothing else changed
(R177, R178, R197). -/
def Obligations.TablesAreWrittenClamped : Prop :=
  ∀ (s : State) (number : BitVec 8) (space : Nat) (index count : Word) (entries : List Word) (rest : List (List Word)),
    let content := Spec.writeRequest number space index count entries
    let low := index.toNat
    let high := index.toNat + count.toNat
    let fits (one : List Word → Prop) (size : Nat) : Prop := ∀ k, k < count.toNat → one (Spec.entryOf size entries k)
    Spec.takes s content rest → 1 ≤ count.toNat → count.toNat ≤ 16 → high ≤ Spec.spaceEntries space →
    MemoriesCanonical s →
      ((space = 1 ∧ entries.length = count.toNat) ∨ (space = 2 ∧ entries.length = count.toNat * 13)
          ∨ (space = 5 ∧ entries.length = count.toNat * 4) → ¬ Spec.tablesOpen s →
        exec .write s = .next (Spec.replied (Spec.taken s rest) content .badState []))
      ∧ (space = 1 → entries.length = count.toNat → Spec.tablesOpen s →
        ∃ t r, exec .write s = .next (Spec.replied { Spec.taken s rest with offsets := t } content r [])
          ∧ (∀ n : LinkNo, t.get n =
              if low ≤ n.val ∧ n.val < high then max (-64) (min 63 (entries.getD (n.val - low) 0).toInt)
              else s.offsets.get n)
          ∧ Spec.writeResult r (∀ w ∈ entries, -64 ≤ w.toInt ∧ w.toInt ≤ 63))
      ∧ (space = 2 → entries.length = count.toNat * 13 → Spec.tablesOpen s →
        ∃ t r, exec .write s = .next (Spec.replied { Spec.taken s rest with classes := t } content r [])
          ∧ (∀ k : ClassNo, t.get k =
              if low ≤ k.val ∧ k.val < high then Spec.classEntry (Spec.entryOf 13 entries (k.val - low))
              else s.classes.get k)
          ∧ Spec.writeResult r (fits Spec.classFits 13))
      ∧ (space = 5 → entries.length = count.toNat * 4 → Spec.tablesOpen s →
        ∃ t r, exec .write s = .next (Spec.replied { Spec.taken s rest with pads := t } content r [])
          ∧ (∀ k, Memory.read Pad.cold t k =
              if low ≤ k ∧ k < high then Spec.padEntry (Spec.entryOf 4 entries (k - low))
              else Memory.read Pad.cold s.pads k)
          ∧ Spec.writeResult r (fits Spec.padFits 4))

/-- A WRITE to GENERAL, WINDOWS or ROWS that passes the checks: GENERAL is refused LOCKED for a changed segment id under the
lock, else BAD_STATE outside SETUP and READY; WINDOWS and ROWS are refused LOCKED outside SETUP; and else every entry is
stored with its fields clamped, the answer CLAMPED exactly when a field was (R101, R106, R177, R178). -/
def Obligations.LockedSpacesAreWrittenInSetup : Prop :=
  ∀ (s : State) (number : BitVec 8) (index count : Word) (entries : List Word) (rest : List (List Word)),
    let content (space : Nat) := Spec.writeRequest number space index count entries
    let low := index.toNat
    let high := index.toNat + count.toNat
    let fits (one : List Word → Prop) (size : Nat) : Prop := ∀ k, k < count.toNat → one (Spec.entryOf size entries k)
    let segment := Spec.clamped 0 63 (entries.getD 0 0)
    1 ≤ count.toNat → count.toNat ≤ 16 →
      (Spec.takes s (content 0) rest → high ≤ 1 → entries.length = 8 →
        (s.locked = true → segment ≠ s.general.segment →
          exec .writeGeneral s = .next (Spec.replied (Spec.taken s rest) (content 0) .locked []))
        ∧ (s.locked = false ∨ segment = s.general.segment → ¬ Spec.tablesOpen s →
          exec .writeGeneral s = .next (Spec.replied (Spec.taken s rest) (content 0) .badState []))
        ∧ (s.locked = false ∨ segment = s.general.segment → Spec.tablesOpen s →
          ∃ r, exec .writeGeneral s =
              .next (Spec.replied { Spec.taken s rest with general := Spec.generalEntry entries } (content 0) r [])
            ∧ Spec.writeResult r (Spec.generalFits entries)))
      ∧ (Spec.takes s (content 3) rest → high ≤ 64 → entries.length = count.toNat * 6 →
        (s.runState ≠ .setup →
          exec .writeWindows s = .next (Spec.replied (Spec.taken s rest) (content 3) .locked []))
        ∧ (s.runState = .setup →
          ∃ t r, exec .writeWindows s = .next (Spec.replied { Spec.taken s rest with windows := t } (content 3) r [])
            ∧ (∀ i : SlotNo, (low ≤ i.val ∧ i.val < high →
                  Spec.isWindow (t.get i) (Spec.entryOf 6 entries (i.val - low)))
                ∧ (¬ (low ≤ i.val ∧ i.val < high) → t.get i = s.windows.get i))
            ∧ Spec.writeResult r (fits Spec.windowFits 6)))
      ∧ (Spec.takes s (content 4) rest → high ≤ 48 → entries.length = count.toNat →
        (s.runState ≠ .setup →
          exec .writeRows s = .next (Spec.replied (Spec.taken s rest) (content 4) .locked []))
        ∧ (s.runState = .setup →
          ∃ t r, exec .writeRows s = .next (Spec.replied { Spec.taken s rest with rows := t } (content 4) r [])
            ∧ (∀ i : RowNo, t.get i =
                if low ≤ i.val ∧ i.val < high then min 192 (entries.getD (i.val - low) 0).toNat else s.rows.get i)
            ∧ Spec.writeResult r (∀ w ∈ entries, w.toNat ≤ 192)))

/-- While the setup lock is held, a step changes neither the map windows nor the row table nor the segment id, and only a cold
reset releases the lock (R106); so while it is held no pad is the target of more than one link and channel pair (R105). -/
def Obligations.SetupLockFixesTheMapping : Prop :=
  ∀ s t : State, RunControlSound s → step s = .next t →
    (s.locked = true → s.pending.head? ≠ some .coldReset →
      t.locked = true ∧ t.windows = s.windows ∧ t.rows = s.rows ∧ t.general.segment = s.general.segment)
    ∧ ((s.locked = true → Spec.mappingInjective s) → t.locked = true → Spec.mappingInjective t)

/-- The run state machine: Setup done in SETUP makes the five checks and takes the lock exactly when all pass; Start in READY,
which gives GO on the timing link when the table is empty and every cell is free; Stop in RUNNING, with drain completion at
once if its four parts hold; drain completion in DRAINING drops every orphan as stray and gives READY; each command is
refused with BAD_STATE elsewhere (R53, R70, R181 to R184). Setup done names the space and entry of its first failing check (R103 to
R105, R182). That drain completion changes nothing where its condition does not hold is the model's choice (log entry 2). -/
def Obligations.RunStateMoves : Prop :=
  (∀ (s : State) (number : BitVec 8) (argument : Word) (rest : List (List Word)),
    let content (verb : Nat) := Spec.command number verb argument
    let u := Spec.taken s rest
    let refused (verb : Nat) : State := Spec.replied u (content verb) .badState []
    let drained (t : State) : Prop := t.fill = 0 ∧ t.job = none ∧ t.adoption = [] ∧ t.emitter.frame = .none
    let ready (t : State) : State :=
      { Spec.cellsBack (t.orphans.foldl (fun (v : State) (o : Orphan) => Spec.stray v o.link) { t with orphans := [] })
          (t.orphans.flatMap Orphan.cells) with runState := .ready }.evalTiming
    (Spec.takes s (content 1) rest →
      (s.runState ≠ .setup → exec .setupDone s = .next (refused 1))
      ∧ (s.runState = .setup → Spec.setupPasses s →
        exec .setupDone s =
          .next (Spec.replied { u with runState := .ready, locked := true }.evalTiming (content 1) .done []))
      ∧ (∀ space index, s.runState = .setup → Spec.setupFails s space index →
        exec .setupDone s =
          .next (Spec.replied u (content 1) .badSetup [BitVec.ofNat 16 space, BitVec.ofNat 16 index])))
    ∧ (Spec.takes s (content 2) rest →
      (s.runState ≠ .ready → exec .start s = .next (refused 2))
      ∧ (s.runState = .ready →
        exec .start s =
          .next
            (Spec.replied { u with runState := .running, newestTag := none, pendingSkipped := 0 }.evalTiming (content 2)
              .done []))
      ∧ (s.runState = .ready → s.fill = 0 → s.freeQueue.length = 8192 → GeneralInRange s.general →
        ∃ t, exec .start s = .next t ∧ t.timingFlow = .go))
    ∧ (Spec.takes s (content 3) rest →
      (s.runState ≠ .running → exec .stop s = .next (refused 3))
      ∧ (s.runState = .running → ¬ drained s →
        exec .stop s = .next (Spec.replied { u with runState := .draining }.evalTiming (content 3) .done []))
      ∧ (s.runState = .running → drained s →
        exec .stop s = .next (Spec.replied (ready { u with runState := .draining }.evalTiming) (content 3) .done [])))
    ∧ (s.runState = .draining → drained s → exec .drainCompletion s = .next (ready s))
    ∧ (s.runState ≠ .draining ∨ ¬ drained s → exec .drainCompletion s = .next s))
    ∧ ∀ s : State, ¬ Spec.setupPasses s ↔ ∃ space index, Spec.setupFails s space index

/-- Flush is refused with BAD_STATE in SETUP and READY; in RUNNING and DRAINING it closes every OPEN or EXTENDED slot with cause
FLUSH, cancels its deadline and raises the flush closures counter once for each, and changes nothing else (R18, R35, R39,
R41). -/
def Obligations.FlushClosesEveryOpenSlot : Prop :=
  ∀ (s : State) (number : BitVec 8) (argument : Word) (rest : List (List Word)),
    let content := Spec.command number 4 argument
    let opened := (indices 64).filter (fun i =>
      decide ((s.slots.get i).state = .opened) || decide ((s.slots.get i).state = .extended))
    Spec.takes s content rest →
      (Spec.tablesOpen s → exec .flush s = .next (Spec.replied (Spec.taken s rest) content .badState []))
      ∧ (¬ Spec.tablesOpen s → MemoriesCanonical s → CountersBounded s →
        ∃ t, exec .flush s = .next (Spec.replied t content .done [])
          ∧ t = { Spec.taken s rest with slots := t.slots, deadlines := t.deadlines, counters := t.counters }
          ∧ (∀ i, (Spec.isOpen (s.slots.get i) →
                t.slots.get i = Spec.closed (s.slots.get i) .flush
                  ∧ t.deadlines.get i = { s.deadlines.get i with stage := .none })
              ∧ (¬ Spec.isOpen (s.slots.get i) →
                t.slots.get i = s.slots.get i ∧ t.deadlines.get i = s.deadlines.get i))
          ∧ t.counter (.part .flushClosures) = min 4294967295 (s.counter (.part .flushClosures) + opened.length)
          ∧ ∀ c, c ≠ .part .flushClosures → t.counter c = s.counter c)

/-- Warm reset, in every run state: READY under the lock and SETUP without it, the table, the deadlines, the orphan list and the
adoption queue emptied, the job abandoned, every cell free in ascending order, the FIFOs emptied, the frame in progress among them,
GO toward every card and due on the lane of each card that was in HOLD, the event frame in progress cut and counted and a reply
frame kept, the flow state of the timing link HOLD and due there if it was GO; the link states, the tables, the accumulator, the
error causes, the queues, the timebase and every other counter kept; and DONE appended behind the replies that waited (R28, R42, R56,
R73, R92, R95, R107, R133, R145, R156, R170, R189, R190). The model's choices: a symbol that is due goes at the next word boundary of
its lane (log entry 4); what a receiver's word list, CRC and timer and the idle emitter hold (log entry 16); that an event frame is closed
with CUT also after its CRC word (log entry 25); and that a trigger message in progress is discarded without count, its END
included (log entry 23). -/
def Obligations.WarmResetEmptiesTheTable : Prop :=
  ∀ (s : State) (number : BitVec 8) (argument : Word) (rest : List (List Word)),
    let content := Spec.command number 5 argument
    let skipped (r : Receiver) : Receiver :=
      if r.frame = .receiving then { r with frame := .discarding, words := [], crc := 0xFFFF, stall := none } else r
    let emptied (f : FrontLink) : FrontLink :=
      { rx := skipped f.rx, waiting := [], held := none, flow := .go, due := if f.flow = .hold then .changed else f.due
        notice := if f.notice = .pending then .delivered else f.notice }
    let cut := (s.bump (.part .eventFramesCut)).counters
    Spec.takes s content rest →
      ∃ t, exec .warmReset s = .next (Spec.replied t content .done [])
        ∧ t.runState = (if s.locked = true then .ready else .setup) ∧ t.timingFlow = .hold
        ∧ t.timingDue = (if s.timingFlow = .go then .changed else s.timingDue)
        ∧ t.newestTag = none ∧ t.pendingSkipped = 0 ∧ t.put = 0 ∧ t.get = 0 ∧ t.fill = 0
        ∧ (∀ i, t.slots.get i = Slot.empty ∧ t.deadlines.get i = Deadline.empty)
        ∧ t.orphans = [] ∧ t.adoption = [] ∧ t.job = none ∧ t.rotation = 24 ∧ t.freeQueue = List.range 8192
        ∧ (∀ n,
            t.front.get n = emptied (s.front.get n)
              ∧ (ReceiverSound (s.front.get n).rx →
                  (t.front.get n).rx.words = [] ∧ (t.front.get n).occupancy = 0 ∧ (t.front.get n).rx.stall = none))
        ∧ t.timing = skipped s.timing
        ∧ (s.emitter.frame = .event →
            t.emitter = ⟨.none, false, .header 0, [], 0xFFFF⟩ ∧ t.out = s.out ++ [(Lane.uplink, LaneCode.cut)]
              ∧ t.counters = cut)
        ∧ (s.emitter.frame ≠ .event → t.emitter = s.emitter ∧ t.out = s.out ∧ t.counters = s.counters)
        ∧ t = { t with
            locked := s.locked, executing := s.executing, errors := s.errors, general := s.general, classes := s.classes,
            offsets := s.offsets, uplink := s.uplink, windows := s.windows, rows := s.rows, pads := s.pads,
            store := s.store, lowMark := s.lowMark, accState := s.accState, acc := s.acc, farmFlow := s.farmFlow,
            requests := rest, replies := s.replies, timebase := s.timebase, pending := s.pending }

/-- Bar link enters BARRED in every run state and link state: the frame in progress goes uncounted, every waiting frame goes
counted, a notice not yet delivered is delivered, and the flow state is re-evaluated; a BARRED link is left as it is. Unbar
link puts a BARRED link in DARK and leaves its notice state; any other link is left as it is (R88, R90, R91, R92). That the
code error count starts again is the model's reading (log entry 10). What a receiver's word list, CRC and timer hold outside
a frame is the model's choice (log entry 16). -/
def Obligations.BarAndUnbarLinks : Prop :=
  ∀ (s : State) (number : BitVec 8) (argument : Word) (n : LinkNo) (rest : List (List Word)),
    let content (verb : Nat) := Spec.command number verb argument
    let u := Spec.taken s rest
    let f := s.front.get n
    let g := { f with
      rx := { Spec.frameOver f.rx .outside with link := .barred }, waiting := [], notice := .delivered }
    let v := (u.setFront n g).bumpBy (.link .discardedByBar n) f.waiting.length
    argument.toNat = n.val →
      (Spec.takes s (content 8) rest →
        (f.rx.link = .barred → exec .barLink s = .next (Spec.replied u (content 8) .done []))
        ∧ (f.rx.link ≠ .barred → f.notice = .delivered →
          exec .barLink s = .next (Spec.replied (v.evalFront n) (content 8) .done []))
        ∧ (f.rx.link ≠ .barred → f.notice ≠ .delivered →
          exec .barLink s = .next (Spec.replied ((v.lossNotice n).evalFront n) (content 8) .done [])))
      ∧ (Spec.takes s (content 9) rest →
        (f.rx.link ≠ .barred → exec .unbarLink s = .next (Spec.replied u (content 9) .done []))
        ∧ (f.rx.link = .barred →
          exec .unbarLink s =
            .next
              (Spec.replied (u.setFront n { f with rx := { f.rx with link := .dark, frame := .outside } }) (content 9)
                .done [])))

/-- Clear counters in SETUP and READY sets every counter to 0 and the low mark to the free count; Clear errors empties the error
cause set (R144, R186, R187). Pedestal start in READY and RUNNING clears the accumulator and starts it; Pedestal stop holds
one that accumulates; Pedestal adopt, HELD and in SETUP or READY, writes the rounded mean of each pad with samples into its
pedestal alone and answers their number; each is refused with BAD_STATE elsewhere (R147 to R149, R153, R154). -/
def Obligations.ClearAndPedestalCommands : Prop :=
  ∀ (s : State) (number : BitVec 8) (argument : Word) (rest : List (List Word)),
    let content (verb : Nat) := Spec.command number verb argument
    let u := Spec.taken s rest
    let refused (verb : Nat) : State := Spec.replied u (content verb) .badState []
    (Spec.takes s (content 6) rest →
      (¬ Spec.tablesOpen s → exec .clearCounters s = .next (refused 6))
      ∧ (Spec.tablesOpen s →
        exec .clearCounters s =
          .next (Spec.replied { u with counters := [], lowMark := s.freeQueue.length } (content 6) .done [])))
    ∧ (Spec.takes s (content 7) rest →
      exec .clearErrors s = .next (Spec.replied { u with errors := 0 } (content 7) .done []))
    ∧ (Spec.takes s (content 10) rest →
      (s.runState = .setup ∨ s.runState = .draining → exec .pedestalStart s = .next (refused 10))
      ∧ (s.runState = .ready ∨ s.runState = .running →
        exec .pedestalStart s =
          .next (Spec.replied { u with acc := [], accState := .accumulating } (content 10) .done [])))
    ∧ (Spec.takes s (content 11) rest →
      (s.accState ≠ .accumulating → exec .pedestalStop s = .next (refused 11))
      ∧ (s.accState = .accumulating →
        exec .pedestalStop s = .next (Spec.replied { u with accState := .held } (content 11) .done [])))
    ∧ (Spec.takes s (content 12) rest →
      (¬ Spec.tablesOpen s ∨ s.accState ≠ .held → exec .pedestalAdopt s = .next (refused 12))
      ∧ (Spec.tablesOpen s → s.accState = .held → MemoriesCanonical s →
        ∃ t, exec .pedestalAdopt s =
            .next
              (Spec.replied { u with pads := t } (content 12) .done
                [BitVec.ofNat 16 (s.acc.filter (fun e => decide (0 < e.2.count))).length])
          ∧ ∀ k,
              let e := Memory.read AccEntry.cold s.acc k
              let p := Memory.read Pad.cold s.pads k
              Memory.read Pad.cold t k =
                if 0 < e.count then { p with pedestal := min 4095 ((4 * e.sum + e.count / 2) / e.count) } else p))

/-! ### Carriers -/

/-- Every code but a code error has a group, and the receiver reads each such group as that code (R192); an entry written
with the words a READ returns of one whose fields lie in their ranges is that entry, with nothing clamped (R178, R197); and the
enumerated values, the flags and the error causes have the codes and bits of R194. -/
def Obligations.CodesAndEntriesReadBack : Prop :=
  (∀ c : Code, c ≠ .error → ∃ g, encodeGroup c = some g ∧ decodeGroup g = c)
    ∧ (∀ g : General, GeneralInRange g → generalOf g.words = ⟨g, false⟩)
    ∧ (∀ c : ClassEntry, ClassInRange c → classOf c.words = ⟨c, false⟩)
    ∧ (∀ w : MapWindow, WindowInRange w → windowOf w.words = ⟨w, false⟩)
    ∧ (∀ p : Pad, PadInRange p → padOf p.words = ⟨p, false⟩)
    ∧ (∀ o : Int, -64 ≤ o → o ≤ 63 → offsetOf [BitVec.ofInt 16 o] = ⟨o, false⟩)
    ∧ [LinkState.dark, .aligning, .live, .barred].map LinkState.code = [0, 1, 2, 3]
    ∧ [NoticeState.none, .pending, .delivered].map NoticeState.code = [0, 1, 2]
    ∧ [RunState.setup, .ready, .running, .draining].map RunState.code = [0, 1, 2, 3]
    ∧ [AccState.idle, .accumulating, .held].map AccState.code = [0, 1, 2]
    ∧ [SlotState.free, .opened, .extended, .closing, .closed, .emitting].map SlotState.code = [0, 1, 2, 3, 4, 5]
    ∧ [Stage.none, .first, .second].map Stage.code = [0, 1, 2]
    ∧ [Cause.none, .allIn, .firstDeadline, .secondDeadline, .flush].map Cause.code = [0, 1, 2, 3, 4]
    ∧ [Status.none, .complete, .partly, .flushed].map Status.code = [0, 1, 2, 3]
    ∧ [ClassKind.disabled, .physics, .calibration, .pedestal].map ClassKind.code = [0, 1, 2, 3]
    ∧ [PadMode.active, .raw, .masked].map PadMode.code = [0, 1, 2]
    ∧ [Direction.ascending, .descending].map Direction.code = [0, 1]
    ∧ (∀ f : FragFlags,
        let flags := [f.feOverflow, f.fePartial, f.malformed, f.truncated, f.storeFull, f.unmapped, f.clipped, f.adopted,
          f.extra]
        ∀ k, f.toWord.getLsbD k = flags.getD k false)
    ∧ ∀ (s : State) (k : Nat) (e : ErrorCause),
        [ErrorCause.frontCrc, .frontOverflow, .frontStall, .frontOversize, .frontMalformed, .linkLost, .timingLost,
          .uplinkLost, .triggerDuplicate, .triggerRefused, .fragmentLate, .fragmentStray, .fragmentDuplicate,
          .storeExhausted, .requestDropped][k]? = some e →
          s.addError e = { s with errors := s.errors ||| 1#15 <<< k }
end

