-- ==== Sys2Proof/Laws/Bank.lean ====
section
/-! SUPPORT. The laws of a bank: what a read gives after each operation, and when two banks are equal. -/

namespace Sys2Proof.Machine

variable {α β : Type} {n : Nat}

/-- A bank is its things, index by index. -/
theorem Bank.ext_get {a b : Bank α n} (h : ∀ i, a.get i = b.get i) : a = b := by
  rcases a with ⟨l, hl⟩
  rcases b with ⟨m, hm⟩
  have : l = m := by
    apply List.ext_getElem (hl.trans hm.symm)
    intro k h1 h2
    exact h ⟨k, hl ▸ h1⟩
  subst this
  rfl

/-- A bank's read as a read of its list. -/
theorem Bank.get_eq (b : Bank α n) (i : Fin n) : b.get i = b.list[i.val]'(b.len.symm ▸ i.isLt) := rfl

/-- A read of the index just written gives what was written. -/
@[simp] theorem Bank.get_set_self (b : Bank α n) (i : Fin n) (a : α) : (b.set i a).get i = a := by
  rw [Bank.get_eq]; exact List.getElem_set_self _

/-- A write leaves every other index alone. -/
theorem Bank.get_set_ne (b : Bank α n) {i j : Fin n} (a : α) (h : j ≠ i) : (b.set i a).get j = b.get j := by
  have : i.val ≠ j.val := fun e => h (Fin.ext e.symm)
  rw [Bank.get_eq, Bank.get_eq]; exact List.getElem_set_ne this _

/-- A read after a write. -/
theorem Bank.get_set (b : Bank α n) (i j : Fin n) (a : α) : (b.set i a).get j = if j = i then a else b.get j := by
  split
  · next h => rw [h, Bank.get_set_self]
  · next h => exact Bank.get_set_ne b a h

/-- Writing what an index holds changes nothing. -/
@[simp] theorem Bank.set_get (b : Bank α n) (i : Fin n) : b.set i (b.get i) = b :=
  Bank.ext_get (fun j => by rw [Bank.get_set]; split <;> simp_all)

/-- The later of two writes of one index stands. -/
@[simp] theorem Bank.set_set (b : Bank α n) (i : Fin n) (x y : α) : (b.set i x).set i y = b.set i y :=
  Bank.ext_get (fun j => by simp only [Bank.get_set]; split <;> simp_all)

@[simp] theorem Bank.get_fill (a : α) (i : Fin n) : (Bank.fill n a).get i = a := by
  rw [Bank.get_eq]; exact List.getElem_replicate _

@[simp] theorem Bank.get_build (f : Fin n → α) (i : Fin n) : (Bank.build f).get i = f i := by
  rw [Bank.get_eq]; exact List.getElem_ofFn _

@[simp] theorem Bank.get_map (b : Bank α n) (f : α → β) (i : Fin n) : (b.map f).get i = f (b.get i) := by
  rw [Bank.get_eq]; exact List.getElem_map _

/-- A thing of the bank's list stands at some index. -/
theorem Bank.mem_list (b : Bank α n) (a : α) : a ∈ b.list ↔ ∃ i, b.get i = a := by
  constructor
  · intro h
    obtain ⟨k, hk, e⟩ := List.getElem_of_mem h
    exact ⟨⟨k, b.len ▸ hk⟩, e⟩
  · rintro ⟨i, rfl⟩
    exact List.get_mem _ _

/-- Some thing meets a test exactly when one at some index does. -/
theorem Bank.any_iff (b : Bank α n) (p : α → Bool) : b.any p = true ↔ ∃ i, p (b.get i) = true := by
  rw [Bank.any, List.any_eq_true]
  constructor
  · rintro ⟨a, ha, hp⟩
    obtain ⟨i, rfl⟩ := (b.mem_list a).1 ha
    exact ⟨i, hp⟩
  · rintro ⟨i, hp⟩
    exact ⟨b.get i, (b.mem_list _).2 ⟨i, rfl⟩, hp⟩

/-- No thing meets a test exactly when its count is 0. -/
theorem Bank.count_eq_zero (b : Bank α n) (p : α → Bool) : b.count p = 0 ↔ ∀ i, p (b.get i) = false := by
  rw [Bank.count, List.countP_eq_zero]
  constructor
  · intro h i
    simpa using h _ ((b.mem_list _).2 ⟨i, rfl⟩)
  · intro h a ha
    obtain ⟨i, rfl⟩ := (b.mem_list a).1 ha
    simp [h i]

/-- Every index is listed. -/
@[simp] theorem mem_indices (i : Fin n) : i ∈ indices n := List.mem_ofFn.2 ⟨i, rfl⟩

/-- No index is listed twice. -/
theorem indices_nodup : (indices n).Nodup := List.nodup_ofFn.2 Function.injective_id

end Sys2Proof.Machine
end

