-- ==== Sys2Proof/Laws/Memory.lean ====
section
/-! SUPPORT. The laws of a sparse memory: a read after a write, and that every operation keeps the canonical form. -/

namespace Sys2Proof.Machine

variable {α : Type} [DecidableEq α] {d : α}

/-- Below its lower bound a memory in canonical form lists nothing. -/
theorem Memory.read_below {m : Memory α} {b a : Nat} (h : Memory.wfFrom d b m = true) (ha : a < b) :
    Memory.read d m a = d := by
  induction m generalizing b with
  | nil => rfl
  | cons p rest ih =>
    obtain ⟨k, v⟩ := p
    simp only [Memory.wfFrom, Bool.and_eq_true, decide_eq_true_eq] at h
    rw [Memory.read, if_neg (by omega)]
    exact ih h.2 (by omega)

/-- The canonical form above a bound is one above any lower bound. -/
theorem Memory.wfFrom_mono {m : Memory α} {b c : Nat} (h : Memory.wfFrom d b m = true) (hc : c ≤ b) :
    Memory.wfFrom d c m = true := by
  cases m with
  | nil => rfl
  | cons p rest =>
    obtain ⟨k, v⟩ := p
    simp only [Memory.wfFrom, Bool.and_eq_true, decide_eq_true_eq] at h ⊢
    exact ⟨⟨by omega, h.1.2⟩, h.2⟩

/-- A write keeps the canonical form above a bound it respects. -/
theorem Memory.wfFrom_write {m : Memory α} {b a : Nat} (v : α) (h : Memory.wfFrom d b m = true) (hb : b ≤ a) :
    Memory.wfFrom d b (Memory.write d m a v) = true := by
  induction m generalizing b with
  | nil => by_cases hv : v = d <;> simp [Memory.write, Memory.wfFrom, hv, hb]
  | cons p rest ih =>
    obtain ⟨k, w⟩ := p
    have h' := h
    simp only [Memory.wfFrom, Bool.and_eq_true, decide_eq_true_eq] at h'
    rw [Memory.write]
    split
    · next hk =>
      split
      · exact h
      · next hv =>
        simp only [Memory.wfFrom, Bool.and_eq_true, decide_eq_true_eq]
        exact ⟨⟨hb, hv⟩, ⟨by omega, h'.1.2⟩, h'.2⟩
    · split
      · next hk =>
        subst hk
        split
        · exact Memory.wfFrom_mono h'.2 (by omega)
        · next hv =>
          simp only [Memory.wfFrom, Bool.and_eq_true, decide_eq_true_eq]
          exact ⟨⟨hb, hv⟩, h'.2⟩
      · simp only [Memory.wfFrom, Bool.and_eq_true, decide_eq_true_eq]
        exact ⟨h'.1, ih h'.2 (by omega)⟩

/-- A write keeps the canonical form. -/
theorem Memory.wf_write {m : Memory α} (a : Nat) (v : α) (h : Memory.wf d m = true) :
    Memory.wf d (Memory.write d m a v) = true :=
  Memory.wfFrom_write v h (Nat.zero_le a)

/-- Several writes keep the canonical form. -/
theorem Memory.wf_writeAll {m : Memory α} (l : List (Nat × α)) (h : Memory.wf d m = true) :
    Memory.wf d (Memory.writeAll d m l) = true := by
  induction l generalizing m with
  | nil => exact h
  | cons p rest ih => exact ih (Memory.wf_write p.1 p.2 h)

/-- An empty memory is in canonical form. -/
@[simp] theorem Memory.wf_nil : Memory.wf d ([] : Memory α) = true := rfl

omit [DecidableEq α] in
/-- An empty memory reads as the default everywhere. -/
@[simp] theorem Memory.read_nil (a : Nat) : Memory.read d ([] : Memory α) a = d := rfl

/-- A write leaves every other address alone. -/
theorem Memory.read_write_ne (m : Memory α) {a c : Nat} (v : α) (h : c ≠ a) :
    Memory.read d (Memory.write d m a v) c = Memory.read d m c := by
  induction m with
  | nil => by_cases hv : v = d <;> simp [Memory.write, Memory.read, hv, h.symm]
  | cons p rest ih =>
    obtain ⟨k, w⟩ := p
    rw [Memory.write]
    split
    · split
      · rfl
      · rw [Memory.read, if_neg h.symm]
    · split
      · next hk =>
        subst hk
        split
        · rw [Memory.read, if_neg h.symm]
        · rw [Memory.read, Memory.read, if_neg h.symm, if_neg h.symm]
      · rw [Memory.read, Memory.read, ih]

/-- A read of the address just written gives what was written. -/
theorem Memory.read_write_self {m : Memory α} {a : Nat} (v : α) (h : Memory.wf d m = true) :
    Memory.read d (Memory.write d m a v) a = v := by
  suffices ∀ b, Memory.wfFrom d b m = true → Memory.read d (Memory.write d m a v) a = v from this 0 h
  clear h
  induction m with
  | nil => intro b _; by_cases hv : v = d <;> simp [Memory.write, Memory.read, hv]
  | cons p rest ih =>
    obtain ⟨k, w⟩ := p
    intro b h
    simp only [Memory.wfFrom, Bool.and_eq_true, decide_eq_true_eq] at h
    rw [Memory.write]
    split
    · next hk =>
      split
      · next hv =>
        rw [Memory.read, if_neg (by omega), hv]
        exact Memory.read_below h.2 (by omega)
      · rw [Memory.read, if_pos rfl]
    · split
      · next hk =>
        subst hk
        split
        · next hv => rw [hv]; exact Memory.read_below h.2 (by omega)
        · rw [Memory.read, if_pos rfl]
      · next h1 h2 =>
        rw [Memory.read, if_neg (fun e => h2 e.symm)]
        exact ih _ h.2

/-- A read after a write. -/
theorem Memory.read_write {m : Memory α} (a c : Nat) (v : α) (h : Memory.wf d m = true) :
    Memory.read d (Memory.write d m a v) c = if c = a then v else Memory.read d m c := by
  split
  · next e => rw [e, Memory.read_write_self v h]
  · next e => exact Memory.read_write_ne m v e

end Sys2Proof.Machine
end

