-- ==== Sys2Proof/Laws/State.lean ====
section
/-! SUPPORT. What each named update of the state leaves in every field, so that no later proof unfolds a record update. -/

namespace Sys2Proof.Machine

variable (s : State)

/-! ### `State.setSlot` -/

@[simp] theorem State.setSlot_runState (i : SlotNo) (x : Slot) : (s.setSlot i x).runState = s.runState := rfl
@[simp] theorem State.setSlot_locked (i : SlotNo) (x : Slot) : (s.setSlot i x).locked = s.locked := rfl
@[simp] theorem State.setSlot_executing (i : SlotNo) (x : Slot) : (s.setSlot i x).executing = s.executing := rfl
@[simp] theorem State.setSlot_errors (i : SlotNo) (x : Slot) : (s.setSlot i x).errors = s.errors := rfl
@[simp] theorem State.setSlot_counters (i : SlotNo) (x : Slot) : (s.setSlot i x).counters = s.counters := rfl
@[simp] theorem State.setSlot_general (i : SlotNo) (x : Slot) : (s.setSlot i x).general = s.general := rfl
@[simp] theorem State.setSlot_classes (i : SlotNo) (x : Slot) : (s.setSlot i x).classes = s.classes := rfl
@[simp] theorem State.setSlot_offsets (i : SlotNo) (x : Slot) : (s.setSlot i x).offsets = s.offsets := rfl
@[simp] theorem State.setSlot_front (i : SlotNo) (x : Slot) : (s.setSlot i x).front = s.front := rfl
@[simp] theorem State.setSlot_timing (i : SlotNo) (x : Slot) : (s.setSlot i x).timing = s.timing := rfl
@[simp] theorem State.setSlot_uplink (i : SlotNo) (x : Slot) : (s.setSlot i x).uplink = s.uplink := rfl
@[simp] theorem State.setSlot_newestTag (i : SlotNo) (x : Slot) : (s.setSlot i x).newestTag = s.newestTag := rfl
@[simp] theorem State.setSlot_pendingSkipped (i : SlotNo) (x : Slot) : (s.setSlot i x).pendingSkipped = s.pendingSkipped := rfl
@[simp] theorem State.setSlot_timingFlow (i : SlotNo) (x : Slot) : (s.setSlot i x).timingFlow = s.timingFlow := rfl
@[simp] theorem State.setSlot_timingDue (i : SlotNo) (x : Slot) : (s.setSlot i x).timingDue = s.timingDue := rfl
@[simp] theorem State.setSlot_slots (i : SlotNo) (x : Slot) : (s.setSlot i x).slots = s.slots.set i x := rfl
@[simp] theorem State.setSlot_put (i : SlotNo) (x : Slot) : (s.setSlot i x).put = s.put := rfl
@[simp] theorem State.setSlot_get (i : SlotNo) (x : Slot) : (s.setSlot i x).get = s.get := rfl
@[simp] theorem State.setSlot_fill (i : SlotNo) (x : Slot) : (s.setSlot i x).fill = s.fill := rfl
@[simp] theorem State.setSlot_deadlines (i : SlotNo) (x : Slot) : (s.setSlot i x).deadlines = s.deadlines := rfl
@[simp] theorem State.setSlot_orphans (i : SlotNo) (x : Slot) : (s.setSlot i x).orphans = s.orphans := rfl
@[simp] theorem State.setSlot_adoption (i : SlotNo) (x : Slot) : (s.setSlot i x).adoption = s.adoption := rfl
@[simp] theorem State.setSlot_job (i : SlotNo) (x : Slot) : (s.setSlot i x).job = s.job := rfl
@[simp] theorem State.setSlot_rotation (i : SlotNo) (x : Slot) : (s.setSlot i x).rotation = s.rotation := rfl
@[simp] theorem State.setSlot_windows (i : SlotNo) (x : Slot) : (s.setSlot i x).windows = s.windows := rfl
@[simp] theorem State.setSlot_rows (i : SlotNo) (x : Slot) : (s.setSlot i x).rows = s.rows := rfl
@[simp] theorem State.setSlot_pads (i : SlotNo) (x : Slot) : (s.setSlot i x).pads = s.pads := rfl
@[simp] theorem State.setSlot_store (i : SlotNo) (x : Slot) : (s.setSlot i x).store = s.store := rfl
@[simp] theorem State.setSlot_freeQueue (i : SlotNo) (x : Slot) : (s.setSlot i x).freeQueue = s.freeQueue := rfl
@[simp] theorem State.setSlot_lowMark (i : SlotNo) (x : Slot) : (s.setSlot i x).lowMark = s.lowMark := rfl
@[simp] theorem State.setSlot_accState (i : SlotNo) (x : Slot) : (s.setSlot i x).accState = s.accState := rfl
@[simp] theorem State.setSlot_acc (i : SlotNo) (x : Slot) : (s.setSlot i x).acc = s.acc := rfl
@[simp] theorem State.setSlot_emitter (i : SlotNo) (x : Slot) : (s.setSlot i x).emitter = s.emitter := rfl
@[simp] theorem State.setSlot_farmFlow (i : SlotNo) (x : Slot) : (s.setSlot i x).farmFlow = s.farmFlow := rfl
@[simp] theorem State.setSlot_requests (i : SlotNo) (x : Slot) : (s.setSlot i x).requests = s.requests := rfl
@[simp] theorem State.setSlot_replies (i : SlotNo) (x : Slot) : (s.setSlot i x).replies = s.replies := rfl
@[simp] theorem State.setSlot_timebase (i : SlotNo) (x : Slot) : (s.setSlot i x).timebase = s.timebase := rfl
@[simp] theorem State.setSlot_out (i : SlotNo) (x : Slot) : (s.setSlot i x).out = s.out := rfl
@[simp] theorem State.setSlot_pending (i : SlotNo) (x : Slot) : (s.setSlot i x).pending = s.pending := rfl
@[simp] theorem State.setSlot_counter (i : SlotNo) (x : Slot) (k : Counter) : (s.setSlot i x).counter k = s.counter k := rfl
@[simp] theorem State.setSlot_rx (i : SlotNo) (x : Slot) (m : Lane) : (s.setSlot i x).rx m = s.rx m := by cases m <;> rfl
@[simp] theorem State.setSlot_freeCount (i : SlotNo) (x : Slot) : (s.setSlot i x).freeCount = s.freeCount := rfl

/-! ### `State.setDeadline` -/

@[simp] theorem State.setDeadline_runState (i : SlotNo) (d : Deadline) : (s.setDeadline i d).runState = s.runState := rfl
@[simp] theorem State.setDeadline_locked (i : SlotNo) (d : Deadline) : (s.setDeadline i d).locked = s.locked := rfl
@[simp] theorem State.setDeadline_executing (i : SlotNo) (d : Deadline) : (s.setDeadline i d).executing = s.executing := rfl
@[simp] theorem State.setDeadline_errors (i : SlotNo) (d : Deadline) : (s.setDeadline i d).errors = s.errors := rfl
@[simp] theorem State.setDeadline_counters (i : SlotNo) (d : Deadline) : (s.setDeadline i d).counters = s.counters := rfl
@[simp] theorem State.setDeadline_general (i : SlotNo) (d : Deadline) : (s.setDeadline i d).general = s.general := rfl
@[simp] theorem State.setDeadline_classes (i : SlotNo) (d : Deadline) : (s.setDeadline i d).classes = s.classes := rfl
@[simp] theorem State.setDeadline_offsets (i : SlotNo) (d : Deadline) : (s.setDeadline i d).offsets = s.offsets := rfl
@[simp] theorem State.setDeadline_front (i : SlotNo) (d : Deadline) : (s.setDeadline i d).front = s.front := rfl
@[simp] theorem State.setDeadline_timing (i : SlotNo) (d : Deadline) : (s.setDeadline i d).timing = s.timing := rfl
@[simp] theorem State.setDeadline_uplink (i : SlotNo) (d : Deadline) : (s.setDeadline i d).uplink = s.uplink := rfl
@[simp] theorem State.setDeadline_newestTag (i : SlotNo) (d : Deadline) : (s.setDeadline i d).newestTag = s.newestTag := rfl
@[simp] theorem State.setDeadline_pendingSkipped (i : SlotNo) (d : Deadline) : (s.setDeadline i d).pendingSkipped = s.pendingSkipped := rfl
@[simp] theorem State.setDeadline_timingFlow (i : SlotNo) (d : Deadline) : (s.setDeadline i d).timingFlow = s.timingFlow := rfl
@[simp] theorem State.setDeadline_timingDue (i : SlotNo) (d : Deadline) : (s.setDeadline i d).timingDue = s.timingDue := rfl
@[simp] theorem State.setDeadline_slots (i : SlotNo) (d : Deadline) : (s.setDeadline i d).slots = s.slots := rfl
@[simp] theorem State.setDeadline_put (i : SlotNo) (d : Deadline) : (s.setDeadline i d).put = s.put := rfl
@[simp] theorem State.setDeadline_get (i : SlotNo) (d : Deadline) : (s.setDeadline i d).get = s.get := rfl
@[simp] theorem State.setDeadline_fill (i : SlotNo) (d : Deadline) : (s.setDeadline i d).fill = s.fill := rfl
@[simp] theorem State.setDeadline_deadlines (i : SlotNo) (d : Deadline) : (s.setDeadline i d).deadlines = s.deadlines.set i d := rfl
@[simp] theorem State.setDeadline_orphans (i : SlotNo) (d : Deadline) : (s.setDeadline i d).orphans = s.orphans := rfl
@[simp] theorem State.setDeadline_adoption (i : SlotNo) (d : Deadline) : (s.setDeadline i d).adoption = s.adoption := rfl
@[simp] theorem State.setDeadline_job (i : SlotNo) (d : Deadline) : (s.setDeadline i d).job = s.job := rfl
@[simp] theorem State.setDeadline_rotation (i : SlotNo) (d : Deadline) : (s.setDeadline i d).rotation = s.rotation := rfl
@[simp] theorem State.setDeadline_windows (i : SlotNo) (d : Deadline) : (s.setDeadline i d).windows = s.windows := rfl
@[simp] theorem State.setDeadline_rows (i : SlotNo) (d : Deadline) : (s.setDeadline i d).rows = s.rows := rfl
@[simp] theorem State.setDeadline_pads (i : SlotNo) (d : Deadline) : (s.setDeadline i d).pads = s.pads := rfl
@[simp] theorem State.setDeadline_store (i : SlotNo) (d : Deadline) : (s.setDeadline i d).store = s.store := rfl
@[simp] theorem State.setDeadline_freeQueue (i : SlotNo) (d : Deadline) : (s.setDeadline i d).freeQueue = s.freeQueue := rfl
@[simp] theorem State.setDeadline_lowMark (i : SlotNo) (d : Deadline) : (s.setDeadline i d).lowMark = s.lowMark := rfl
@[simp] theorem State.setDeadline_accState (i : SlotNo) (d : Deadline) : (s.setDeadline i d).accState = s.accState := rfl
@[simp] theorem State.setDeadline_acc (i : SlotNo) (d : Deadline) : (s.setDeadline i d).acc = s.acc := rfl
@[simp] theorem State.setDeadline_emitter (i : SlotNo) (d : Deadline) : (s.setDeadline i d).emitter = s.emitter := rfl
@[simp] theorem State.setDeadline_farmFlow (i : SlotNo) (d : Deadline) : (s.setDeadline i d).farmFlow = s.farmFlow := rfl
@[simp] theorem State.setDeadline_requests (i : SlotNo) (d : Deadline) : (s.setDeadline i d).requests = s.requests := rfl
@[simp] theorem State.setDeadline_replies (i : SlotNo) (d : Deadline) : (s.setDeadline i d).replies = s.replies := rfl
@[simp] theorem State.setDeadline_timebase (i : SlotNo) (d : Deadline) : (s.setDeadline i d).timebase = s.timebase := rfl
@[simp] theorem State.setDeadline_out (i : SlotNo) (d : Deadline) : (s.setDeadline i d).out = s.out := rfl
@[simp] theorem State.setDeadline_pending (i : SlotNo) (d : Deadline) : (s.setDeadline i d).pending = s.pending := rfl
@[simp] theorem State.setDeadline_counter (i : SlotNo) (d : Deadline) (k : Counter) : (s.setDeadline i d).counter k = s.counter k := rfl
@[simp] theorem State.setDeadline_rx (i : SlotNo) (d : Deadline) (m : Lane) : (s.setDeadline i d).rx m = s.rx m := by cases m <;> rfl
@[simp] theorem State.setDeadline_freeCount (i : SlotNo) (d : Deadline) : (s.setDeadline i d).freeCount = s.freeCount := rfl

/-! ### `State.setFront` -/

@[simp] theorem State.setFront_runState (n : LinkNo) (f : FrontLink) : (s.setFront n f).runState = s.runState := rfl
@[simp] theorem State.setFront_locked (n : LinkNo) (f : FrontLink) : (s.setFront n f).locked = s.locked := rfl
@[simp] theorem State.setFront_executing (n : LinkNo) (f : FrontLink) : (s.setFront n f).executing = s.executing := rfl
@[simp] theorem State.setFront_errors (n : LinkNo) (f : FrontLink) : (s.setFront n f).errors = s.errors := rfl
@[simp] theorem State.setFront_counters (n : LinkNo) (f : FrontLink) : (s.setFront n f).counters = s.counters := rfl
@[simp] theorem State.setFront_general (n : LinkNo) (f : FrontLink) : (s.setFront n f).general = s.general := rfl
@[simp] theorem State.setFront_classes (n : LinkNo) (f : FrontLink) : (s.setFront n f).classes = s.classes := rfl
@[simp] theorem State.setFront_offsets (n : LinkNo) (f : FrontLink) : (s.setFront n f).offsets = s.offsets := rfl
@[simp] theorem State.setFront_front (n : LinkNo) (f : FrontLink) : (s.setFront n f).front = s.front.set n f := rfl
@[simp] theorem State.setFront_timing (n : LinkNo) (f : FrontLink) : (s.setFront n f).timing = s.timing := rfl
@[simp] theorem State.setFront_uplink (n : LinkNo) (f : FrontLink) : (s.setFront n f).uplink = s.uplink := rfl
@[simp] theorem State.setFront_newestTag (n : LinkNo) (f : FrontLink) : (s.setFront n f).newestTag = s.newestTag := rfl
@[simp] theorem State.setFront_pendingSkipped (n : LinkNo) (f : FrontLink) : (s.setFront n f).pendingSkipped = s.pendingSkipped := rfl
@[simp] theorem State.setFront_timingFlow (n : LinkNo) (f : FrontLink) : (s.setFront n f).timingFlow = s.timingFlow := rfl
@[simp] theorem State.setFront_timingDue (n : LinkNo) (f : FrontLink) : (s.setFront n f).timingDue = s.timingDue := rfl
@[simp] theorem State.setFront_slots (n : LinkNo) (f : FrontLink) : (s.setFront n f).slots = s.slots := rfl
@[simp] theorem State.setFront_put (n : LinkNo) (f : FrontLink) : (s.setFront n f).put = s.put := rfl
@[simp] theorem State.setFront_get (n : LinkNo) (f : FrontLink) : (s.setFront n f).get = s.get := rfl
@[simp] theorem State.setFront_fill (n : LinkNo) (f : FrontLink) : (s.setFront n f).fill = s.fill := rfl
@[simp] theorem State.setFront_deadlines (n : LinkNo) (f : FrontLink) : (s.setFront n f).deadlines = s.deadlines := rfl
@[simp] theorem State.setFront_orphans (n : LinkNo) (f : FrontLink) : (s.setFront n f).orphans = s.orphans := rfl
@[simp] theorem State.setFront_adoption (n : LinkNo) (f : FrontLink) : (s.setFront n f).adoption = s.adoption := rfl
@[simp] theorem State.setFront_job (n : LinkNo) (f : FrontLink) : (s.setFront n f).job = s.job := rfl
@[simp] theorem State.setFront_rotation (n : LinkNo) (f : FrontLink) : (s.setFront n f).rotation = s.rotation := rfl
@[simp] theorem State.setFront_windows (n : LinkNo) (f : FrontLink) : (s.setFront n f).windows = s.windows := rfl
@[simp] theorem State.setFront_rows (n : LinkNo) (f : FrontLink) : (s.setFront n f).rows = s.rows := rfl
@[simp] theorem State.setFront_pads (n : LinkNo) (f : FrontLink) : (s.setFront n f).pads = s.pads := rfl
@[simp] theorem State.setFront_store (n : LinkNo) (f : FrontLink) : (s.setFront n f).store = s.store := rfl
@[simp] theorem State.setFront_freeQueue (n : LinkNo) (f : FrontLink) : (s.setFront n f).freeQueue = s.freeQueue := rfl
@[simp] theorem State.setFront_lowMark (n : LinkNo) (f : FrontLink) : (s.setFront n f).lowMark = s.lowMark := rfl
@[simp] theorem State.setFront_accState (n : LinkNo) (f : FrontLink) : (s.setFront n f).accState = s.accState := rfl
@[simp] theorem State.setFront_acc (n : LinkNo) (f : FrontLink) : (s.setFront n f).acc = s.acc := rfl
@[simp] theorem State.setFront_emitter (n : LinkNo) (f : FrontLink) : (s.setFront n f).emitter = s.emitter := rfl
@[simp] theorem State.setFront_farmFlow (n : LinkNo) (f : FrontLink) : (s.setFront n f).farmFlow = s.farmFlow := rfl
@[simp] theorem State.setFront_requests (n : LinkNo) (f : FrontLink) : (s.setFront n f).requests = s.requests := rfl
@[simp] theorem State.setFront_replies (n : LinkNo) (f : FrontLink) : (s.setFront n f).replies = s.replies := rfl
@[simp] theorem State.setFront_timebase (n : LinkNo) (f : FrontLink) : (s.setFront n f).timebase = s.timebase := rfl
@[simp] theorem State.setFront_out (n : LinkNo) (f : FrontLink) : (s.setFront n f).out = s.out := rfl
@[simp] theorem State.setFront_pending (n : LinkNo) (f : FrontLink) : (s.setFront n f).pending = s.pending := rfl
@[simp] theorem State.setFront_counter (n : LinkNo) (f : FrontLink) (k : Counter) : (s.setFront n f).counter k = s.counter k := rfl
@[simp] theorem State.setFront_freeCount (n : LinkNo) (f : FrontLink) : (s.setFront n f).freeCount = s.freeCount := rfl

/-! ### `State.bumpBy` -/

@[simp] theorem State.bumpBy_runState (c : Counter) (k : Nat) : (s.bumpBy c k).runState = s.runState := rfl
@[simp] theorem State.bumpBy_locked (c : Counter) (k : Nat) : (s.bumpBy c k).locked = s.locked := rfl
@[simp] theorem State.bumpBy_executing (c : Counter) (k : Nat) : (s.bumpBy c k).executing = s.executing := rfl
@[simp] theorem State.bumpBy_errors (c : Counter) (k : Nat) : (s.bumpBy c k).errors = s.errors := rfl
@[simp] theorem State.bumpBy_counters (c : Counter) (k : Nat) : (s.bumpBy c k).counters = Memory.write 0 s.counters c.entry (min Config.counterMax (s.counter c + k)) := rfl
@[simp] theorem State.bumpBy_general (c : Counter) (k : Nat) : (s.bumpBy c k).general = s.general := rfl
@[simp] theorem State.bumpBy_classes (c : Counter) (k : Nat) : (s.bumpBy c k).classes = s.classes := rfl
@[simp] theorem State.bumpBy_offsets (c : Counter) (k : Nat) : (s.bumpBy c k).offsets = s.offsets := rfl
@[simp] theorem State.bumpBy_front (c : Counter) (k : Nat) : (s.bumpBy c k).front = s.front := rfl
@[simp] theorem State.bumpBy_timing (c : Counter) (k : Nat) : (s.bumpBy c k).timing = s.timing := rfl
@[simp] theorem State.bumpBy_uplink (c : Counter) (k : Nat) : (s.bumpBy c k).uplink = s.uplink := rfl
@[simp] theorem State.bumpBy_newestTag (c : Counter) (k : Nat) : (s.bumpBy c k).newestTag = s.newestTag := rfl
@[simp] theorem State.bumpBy_pendingSkipped (c : Counter) (k : Nat) : (s.bumpBy c k).pendingSkipped = s.pendingSkipped := rfl
@[simp] theorem State.bumpBy_timingFlow (c : Counter) (k : Nat) : (s.bumpBy c k).timingFlow = s.timingFlow := rfl
@[simp] theorem State.bumpBy_timingDue (c : Counter) (k : Nat) : (s.bumpBy c k).timingDue = s.timingDue := rfl
@[simp] theorem State.bumpBy_slots (c : Counter) (k : Nat) : (s.bumpBy c k).slots = s.slots := rfl
@[simp] theorem State.bumpBy_put (c : Counter) (k : Nat) : (s.bumpBy c k).put = s.put := rfl
@[simp] theorem State.bumpBy_get (c : Counter) (k : Nat) : (s.bumpBy c k).get = s.get := rfl
@[simp] theorem State.bumpBy_fill (c : Counter) (k : Nat) : (s.bumpBy c k).fill = s.fill := rfl
@[simp] theorem State.bumpBy_deadlines (c : Counter) (k : Nat) : (s.bumpBy c k).deadlines = s.deadlines := rfl
@[simp] theorem State.bumpBy_orphans (c : Counter) (k : Nat) : (s.bumpBy c k).orphans = s.orphans := rfl
@[simp] theorem State.bumpBy_adoption (c : Counter) (k : Nat) : (s.bumpBy c k).adoption = s.adoption := rfl
@[simp] theorem State.bumpBy_job (c : Counter) (k : Nat) : (s.bumpBy c k).job = s.job := rfl
@[simp] theorem State.bumpBy_rotation (c : Counter) (k : Nat) : (s.bumpBy c k).rotation = s.rotation := rfl
@[simp] theorem State.bumpBy_windows (c : Counter) (k : Nat) : (s.bumpBy c k).windows = s.windows := rfl
@[simp] theorem State.bumpBy_rows (c : Counter) (k : Nat) : (s.bumpBy c k).rows = s.rows := rfl
@[simp] theorem State.bumpBy_pads (c : Counter) (k : Nat) : (s.bumpBy c k).pads = s.pads := rfl
@[simp] theorem State.bumpBy_store (c : Counter) (k : Nat) : (s.bumpBy c k).store = s.store := rfl
@[simp] theorem State.bumpBy_freeQueue (c : Counter) (k : Nat) : (s.bumpBy c k).freeQueue = s.freeQueue := rfl
@[simp] theorem State.bumpBy_lowMark (c : Counter) (k : Nat) : (s.bumpBy c k).lowMark = s.lowMark := rfl
@[simp] theorem State.bumpBy_accState (c : Counter) (k : Nat) : (s.bumpBy c k).accState = s.accState := rfl
@[simp] theorem State.bumpBy_acc (c : Counter) (k : Nat) : (s.bumpBy c k).acc = s.acc := rfl
@[simp] theorem State.bumpBy_emitter (c : Counter) (k : Nat) : (s.bumpBy c k).emitter = s.emitter := rfl
@[simp] theorem State.bumpBy_farmFlow (c : Counter) (k : Nat) : (s.bumpBy c k).farmFlow = s.farmFlow := rfl
@[simp] theorem State.bumpBy_requests (c : Counter) (k : Nat) : (s.bumpBy c k).requests = s.requests := rfl
@[simp] theorem State.bumpBy_replies (c : Counter) (k : Nat) : (s.bumpBy c k).replies = s.replies := rfl
@[simp] theorem State.bumpBy_timebase (c : Counter) (k : Nat) : (s.bumpBy c k).timebase = s.timebase := rfl
@[simp] theorem State.bumpBy_out (c : Counter) (k : Nat) : (s.bumpBy c k).out = s.out := rfl
@[simp] theorem State.bumpBy_pending (c : Counter) (k : Nat) : (s.bumpBy c k).pending = s.pending := rfl
@[simp] theorem State.bumpBy_rx (c : Counter) (k : Nat) (m : Lane) : (s.bumpBy c k).rx m = s.rx m := by cases m <;> rfl
@[simp] theorem State.bumpBy_freeCount (c : Counter) (k : Nat) : (s.bumpBy c k).freeCount = s.freeCount := rfl

/-! ### `State.bump` -/

@[simp] theorem State.bump_runState (c : Counter) : (s.bump c).runState = s.runState := rfl
@[simp] theorem State.bump_locked (c : Counter) : (s.bump c).locked = s.locked := rfl
@[simp] theorem State.bump_executing (c : Counter) : (s.bump c).executing = s.executing := rfl
@[simp] theorem State.bump_errors (c : Counter) : (s.bump c).errors = s.errors := rfl
@[simp] theorem State.bump_counters (c : Counter) : (s.bump c).counters = Memory.write 0 s.counters c.entry (min Config.counterMax (s.counter c + 1)) := rfl
@[simp] theorem State.bump_general (c : Counter) : (s.bump c).general = s.general := rfl
@[simp] theorem State.bump_classes (c : Counter) : (s.bump c).classes = s.classes := rfl
@[simp] theorem State.bump_offsets (c : Counter) : (s.bump c).offsets = s.offsets := rfl
@[simp] theorem State.bump_front (c : Counter) : (s.bump c).front = s.front := rfl
@[simp] theorem State.bump_timing (c : Counter) : (s.bump c).timing = s.timing := rfl
@[simp] theorem State.bump_uplink (c : Counter) : (s.bump c).uplink = s.uplink := rfl
@[simp] theorem State.bump_newestTag (c : Counter) : (s.bump c).newestTag = s.newestTag := rfl
@[simp] theorem State.bump_pendingSkipped (c : Counter) : (s.bump c).pendingSkipped = s.pendingSkipped := rfl
@[simp] theorem State.bump_timingFlow (c : Counter) : (s.bump c).timingFlow = s.timingFlow := rfl
@[simp] theorem State.bump_timingDue (c : Counter) : (s.bump c).timingDue = s.timingDue := rfl
@[simp] theorem State.bump_slots (c : Counter) : (s.bump c).slots = s.slots := rfl
@[simp] theorem State.bump_put (c : Counter) : (s.bump c).put = s.put := rfl
@[simp] theorem State.bump_get (c : Counter) : (s.bump c).get = s.get := rfl
@[simp] theorem State.bump_fill (c : Counter) : (s.bump c).fill = s.fill := rfl
@[simp] theorem State.bump_deadlines (c : Counter) : (s.bump c).deadlines = s.deadlines := rfl
@[simp] theorem State.bump_orphans (c : Counter) : (s.bump c).orphans = s.orphans := rfl
@[simp] theorem State.bump_adoption (c : Counter) : (s.bump c).adoption = s.adoption := rfl
@[simp] theorem State.bump_job (c : Counter) : (s.bump c).job = s.job := rfl
@[simp] theorem State.bump_rotation (c : Counter) : (s.bump c).rotation = s.rotation := rfl
@[simp] theorem State.bump_windows (c : Counter) : (s.bump c).windows = s.windows := rfl
@[simp] theorem State.bump_rows (c : Counter) : (s.bump c).rows = s.rows := rfl
@[simp] theorem State.bump_pads (c : Counter) : (s.bump c).pads = s.pads := rfl
@[simp] theorem State.bump_store (c : Counter) : (s.bump c).store = s.store := rfl
@[simp] theorem State.bump_freeQueue (c : Counter) : (s.bump c).freeQueue = s.freeQueue := rfl
@[simp] theorem State.bump_lowMark (c : Counter) : (s.bump c).lowMark = s.lowMark := rfl
@[simp] theorem State.bump_accState (c : Counter) : (s.bump c).accState = s.accState := rfl
@[simp] theorem State.bump_acc (c : Counter) : (s.bump c).acc = s.acc := rfl
@[simp] theorem State.bump_emitter (c : Counter) : (s.bump c).emitter = s.emitter := rfl
@[simp] theorem State.bump_farmFlow (c : Counter) : (s.bump c).farmFlow = s.farmFlow := rfl
@[simp] theorem State.bump_requests (c : Counter) : (s.bump c).requests = s.requests := rfl
@[simp] theorem State.bump_replies (c : Counter) : (s.bump c).replies = s.replies := rfl
@[simp] theorem State.bump_timebase (c : Counter) : (s.bump c).timebase = s.timebase := rfl
@[simp] theorem State.bump_out (c : Counter) : (s.bump c).out = s.out := rfl
@[simp] theorem State.bump_pending (c : Counter) : (s.bump c).pending = s.pending := rfl
@[simp] theorem State.bump_rx (c : Counter) (m : Lane) : (s.bump c).rx m = s.rx m := by cases m <;> rfl
@[simp] theorem State.bump_freeCount (c : Counter) : (s.bump c).freeCount = s.freeCount := rfl

/-! ### `State.addError` -/

@[simp] theorem State.addError_runState (e : ErrorCause) : (s.addError e).runState = s.runState := rfl
@[simp] theorem State.addError_locked (e : ErrorCause) : (s.addError e).locked = s.locked := rfl
@[simp] theorem State.addError_executing (e : ErrorCause) : (s.addError e).executing = s.executing := rfl
@[simp] theorem State.addError_errors (e : ErrorCause) : (s.addError e).errors = withCause s.errors e := rfl
@[simp] theorem State.addError_counters (e : ErrorCause) : (s.addError e).counters = s.counters := rfl
@[simp] theorem State.addError_general (e : ErrorCause) : (s.addError e).general = s.general := rfl
@[simp] theorem State.addError_classes (e : ErrorCause) : (s.addError e).classes = s.classes := rfl
@[simp] theorem State.addError_offsets (e : ErrorCause) : (s.addError e).offsets = s.offsets := rfl
@[simp] theorem State.addError_front (e : ErrorCause) : (s.addError e).front = s.front := rfl
@[simp] theorem State.addError_timing (e : ErrorCause) : (s.addError e).timing = s.timing := rfl
@[simp] theorem State.addError_uplink (e : ErrorCause) : (s.addError e).uplink = s.uplink := rfl
@[simp] theorem State.addError_newestTag (e : ErrorCause) : (s.addError e).newestTag = s.newestTag := rfl
@[simp] theorem State.addError_pendingSkipped (e : ErrorCause) : (s.addError e).pendingSkipped = s.pendingSkipped := rfl
@[simp] theorem State.addError_timingFlow (e : ErrorCause) : (s.addError e).timingFlow = s.timingFlow := rfl
@[simp] theorem State.addError_timingDue (e : ErrorCause) : (s.addError e).timingDue = s.timingDue := rfl
@[simp] theorem State.addError_slots (e : ErrorCause) : (s.addError e).slots = s.slots := rfl
@[simp] theorem State.addError_put (e : ErrorCause) : (s.addError e).put = s.put := rfl
@[simp] theorem State.addError_get (e : ErrorCause) : (s.addError e).get = s.get := rfl
@[simp] theorem State.addError_fill (e : ErrorCause) : (s.addError e).fill = s.fill := rfl
@[simp] theorem State.addError_deadlines (e : ErrorCause) : (s.addError e).deadlines = s.deadlines := rfl
@[simp] theorem State.addError_orphans (e : ErrorCause) : (s.addError e).orphans = s.orphans := rfl
@[simp] theorem State.addError_adoption (e : ErrorCause) : (s.addError e).adoption = s.adoption := rfl
@[simp] theorem State.addError_job (e : ErrorCause) : (s.addError e).job = s.job := rfl
@[simp] theorem State.addError_rotation (e : ErrorCause) : (s.addError e).rotation = s.rotation := rfl
@[simp] theorem State.addError_windows (e : ErrorCause) : (s.addError e).windows = s.windows := rfl
@[simp] theorem State.addError_rows (e : ErrorCause) : (s.addError e).rows = s.rows := rfl
@[simp] theorem State.addError_pads (e : ErrorCause) : (s.addError e).pads = s.pads := rfl
@[simp] theorem State.addError_store (e : ErrorCause) : (s.addError e).store = s.store := rfl
@[simp] theorem State.addError_freeQueue (e : ErrorCause) : (s.addError e).freeQueue = s.freeQueue := rfl
@[simp] theorem State.addError_lowMark (e : ErrorCause) : (s.addError e).lowMark = s.lowMark := rfl
@[simp] theorem State.addError_accState (e : ErrorCause) : (s.addError e).accState = s.accState := rfl
@[simp] theorem State.addError_acc (e : ErrorCause) : (s.addError e).acc = s.acc := rfl
@[simp] theorem State.addError_emitter (e : ErrorCause) : (s.addError e).emitter = s.emitter := rfl
@[simp] theorem State.addError_farmFlow (e : ErrorCause) : (s.addError e).farmFlow = s.farmFlow := rfl
@[simp] theorem State.addError_requests (e : ErrorCause) : (s.addError e).requests = s.requests := rfl
@[simp] theorem State.addError_replies (e : ErrorCause) : (s.addError e).replies = s.replies := rfl
@[simp] theorem State.addError_timebase (e : ErrorCause) : (s.addError e).timebase = s.timebase := rfl
@[simp] theorem State.addError_out (e : ErrorCause) : (s.addError e).out = s.out := rfl
@[simp] theorem State.addError_pending (e : ErrorCause) : (s.addError e).pending = s.pending := rfl
@[simp] theorem State.addError_counter (e : ErrorCause) (k : Counter) : (s.addError e).counter k = s.counter k := rfl
@[simp] theorem State.addError_rx (e : ErrorCause) (m : Lane) : (s.addError e).rx m = s.rx m := by cases m <;> rfl
@[simp] theorem State.addError_freeCount (e : ErrorCause) : (s.addError e).freeCount = s.freeCount := rfl

/-! ### `State.emit` -/

@[simp] theorem State.emit_runState (l : Lane) (c : LaneCode) : (s.emit l c).runState = s.runState := rfl
@[simp] theorem State.emit_locked (l : Lane) (c : LaneCode) : (s.emit l c).locked = s.locked := rfl
@[simp] theorem State.emit_executing (l : Lane) (c : LaneCode) : (s.emit l c).executing = s.executing := rfl
@[simp] theorem State.emit_errors (l : Lane) (c : LaneCode) : (s.emit l c).errors = s.errors := rfl
@[simp] theorem State.emit_counters (l : Lane) (c : LaneCode) : (s.emit l c).counters = s.counters := rfl
@[simp] theorem State.emit_general (l : Lane) (c : LaneCode) : (s.emit l c).general = s.general := rfl
@[simp] theorem State.emit_classes (l : Lane) (c : LaneCode) : (s.emit l c).classes = s.classes := rfl
@[simp] theorem State.emit_offsets (l : Lane) (c : LaneCode) : (s.emit l c).offsets = s.offsets := rfl
@[simp] theorem State.emit_front (l : Lane) (c : LaneCode) : (s.emit l c).front = s.front := rfl
@[simp] theorem State.emit_timing (l : Lane) (c : LaneCode) : (s.emit l c).timing = s.timing := rfl
@[simp] theorem State.emit_uplink (l : Lane) (c : LaneCode) : (s.emit l c).uplink = s.uplink := rfl
@[simp] theorem State.emit_newestTag (l : Lane) (c : LaneCode) : (s.emit l c).newestTag = s.newestTag := rfl
@[simp] theorem State.emit_pendingSkipped (l : Lane) (c : LaneCode) : (s.emit l c).pendingSkipped = s.pendingSkipped := rfl
@[simp] theorem State.emit_timingFlow (l : Lane) (c : LaneCode) : (s.emit l c).timingFlow = s.timingFlow := rfl
@[simp] theorem State.emit_timingDue (l : Lane) (c : LaneCode) : (s.emit l c).timingDue = s.timingDue := rfl
@[simp] theorem State.emit_slots (l : Lane) (c : LaneCode) : (s.emit l c).slots = s.slots := rfl
@[simp] theorem State.emit_put (l : Lane) (c : LaneCode) : (s.emit l c).put = s.put := rfl
@[simp] theorem State.emit_get (l : Lane) (c : LaneCode) : (s.emit l c).get = s.get := rfl
@[simp] theorem State.emit_fill (l : Lane) (c : LaneCode) : (s.emit l c).fill = s.fill := rfl
@[simp] theorem State.emit_deadlines (l : Lane) (c : LaneCode) : (s.emit l c).deadlines = s.deadlines := rfl
@[simp] theorem State.emit_orphans (l : Lane) (c : LaneCode) : (s.emit l c).orphans = s.orphans := rfl
@[simp] theorem State.emit_adoption (l : Lane) (c : LaneCode) : (s.emit l c).adoption = s.adoption := rfl
@[simp] theorem State.emit_job (l : Lane) (c : LaneCode) : (s.emit l c).job = s.job := rfl
@[simp] theorem State.emit_rotation (l : Lane) (c : LaneCode) : (s.emit l c).rotation = s.rotation := rfl
@[simp] theorem State.emit_windows (l : Lane) (c : LaneCode) : (s.emit l c).windows = s.windows := rfl
@[simp] theorem State.emit_rows (l : Lane) (c : LaneCode) : (s.emit l c).rows = s.rows := rfl
@[simp] theorem State.emit_pads (l : Lane) (c : LaneCode) : (s.emit l c).pads = s.pads := rfl
@[simp] theorem State.emit_store (l : Lane) (c : LaneCode) : (s.emit l c).store = s.store := rfl
@[simp] theorem State.emit_freeQueue (l : Lane) (c : LaneCode) : (s.emit l c).freeQueue = s.freeQueue := rfl
@[simp] theorem State.emit_lowMark (l : Lane) (c : LaneCode) : (s.emit l c).lowMark = s.lowMark := rfl
@[simp] theorem State.emit_accState (l : Lane) (c : LaneCode) : (s.emit l c).accState = s.accState := rfl
@[simp] theorem State.emit_acc (l : Lane) (c : LaneCode) : (s.emit l c).acc = s.acc := rfl
@[simp] theorem State.emit_emitter (l : Lane) (c : LaneCode) : (s.emit l c).emitter = s.emitter := rfl
@[simp] theorem State.emit_farmFlow (l : Lane) (c : LaneCode) : (s.emit l c).farmFlow = s.farmFlow := rfl
@[simp] theorem State.emit_requests (l : Lane) (c : LaneCode) : (s.emit l c).requests = s.requests := rfl
@[simp] theorem State.emit_replies (l : Lane) (c : LaneCode) : (s.emit l c).replies = s.replies := rfl
@[simp] theorem State.emit_timebase (l : Lane) (c : LaneCode) : (s.emit l c).timebase = s.timebase := rfl
@[simp] theorem State.emit_out (l : Lane) (c : LaneCode) : (s.emit l c).out = s.out ++ [(l, c)] := rfl
@[simp] theorem State.emit_pending (l : Lane) (c : LaneCode) : (s.emit l c).pending = s.pending := rfl
@[simp] theorem State.emit_counter (l : Lane) (c : LaneCode) (k : Counter) : (s.emit l c).counter k = s.counter k := rfl
@[simp] theorem State.emit_rx (l : Lane) (c : LaneCode) (m : Lane) : (s.emit l c).rx m = s.rx m := by cases m <;> rfl
@[simp] theorem State.emit_freeCount (l : Lane) (c : LaneCode) : (s.emit l c).freeCount = s.freeCount := rfl

/-! ### `State.setRx` -/

@[simp] theorem State.setRx_runState (l : Lane) (r : Receiver) : (s.setRx l r).runState = s.runState := by cases l <;> rfl
@[simp] theorem State.setRx_locked (l : Lane) (r : Receiver) : (s.setRx l r).locked = s.locked := by cases l <;> rfl
@[simp] theorem State.setRx_executing (l : Lane) (r : Receiver) : (s.setRx l r).executing = s.executing := by cases l <;> rfl
@[simp] theorem State.setRx_errors (l : Lane) (r : Receiver) : (s.setRx l r).errors = s.errors := by cases l <;> rfl
@[simp] theorem State.setRx_counters (l : Lane) (r : Receiver) : (s.setRx l r).counters = s.counters := by cases l <;> rfl
@[simp] theorem State.setRx_general (l : Lane) (r : Receiver) : (s.setRx l r).general = s.general := by cases l <;> rfl
@[simp] theorem State.setRx_classes (l : Lane) (r : Receiver) : (s.setRx l r).classes = s.classes := by cases l <;> rfl
@[simp] theorem State.setRx_offsets (l : Lane) (r : Receiver) : (s.setRx l r).offsets = s.offsets := by cases l <;> rfl
@[simp] theorem State.setRx_newestTag (l : Lane) (r : Receiver) : (s.setRx l r).newestTag = s.newestTag := by cases l <;> rfl
@[simp] theorem State.setRx_pendingSkipped (l : Lane) (r : Receiver) : (s.setRx l r).pendingSkipped = s.pendingSkipped := by cases l <;> rfl
@[simp] theorem State.setRx_timingFlow (l : Lane) (r : Receiver) : (s.setRx l r).timingFlow = s.timingFlow := by cases l <;> rfl
@[simp] theorem State.setRx_timingDue (l : Lane) (r : Receiver) : (s.setRx l r).timingDue = s.timingDue := by cases l <;> rfl
@[simp] theorem State.setRx_slots (l : Lane) (r : Receiver) : (s.setRx l r).slots = s.slots := by cases l <;> rfl
@[simp] theorem State.setRx_put (l : Lane) (r : Receiver) : (s.setRx l r).put = s.put := by cases l <;> rfl
@[simp] theorem State.setRx_get (l : Lane) (r : Receiver) : (s.setRx l r).get = s.get := by cases l <;> rfl
@[simp] theorem State.setRx_fill (l : Lane) (r : Receiver) : (s.setRx l r).fill = s.fill := by cases l <;> rfl
@[simp] theorem State.setRx_deadlines (l : Lane) (r : Receiver) : (s.setRx l r).deadlines = s.deadlines := by cases l <;> rfl
@[simp] theorem State.setRx_orphans (l : Lane) (r : Receiver) : (s.setRx l r).orphans = s.orphans := by cases l <;> rfl
@[simp] theorem State.setRx_adoption (l : Lane) (r : Receiver) : (s.setRx l r).adoption = s.adoption := by cases l <;> rfl
@[simp] theorem State.setRx_job (l : Lane) (r : Receiver) : (s.setRx l r).job = s.job := by cases l <;> rfl
@[simp] theorem State.setRx_rotation (l : Lane) (r : Receiver) : (s.setRx l r).rotation = s.rotation := by cases l <;> rfl
@[simp] theorem State.setRx_windows (l : Lane) (r : Receiver) : (s.setRx l r).windows = s.windows := by cases l <;> rfl
@[simp] theorem State.setRx_rows (l : Lane) (r : Receiver) : (s.setRx l r).rows = s.rows := by cases l <;> rfl
@[simp] theorem State.setRx_pads (l : Lane) (r : Receiver) : (s.setRx l r).pads = s.pads := by cases l <;> rfl
@[simp] theorem State.setRx_store (l : Lane) (r : Receiver) : (s.setRx l r).store = s.store := by cases l <;> rfl
@[simp] theorem State.setRx_freeQueue (l : Lane) (r : Receiver) : (s.setRx l r).freeQueue = s.freeQueue := by cases l <;> rfl
@[simp] theorem State.setRx_lowMark (l : Lane) (r : Receiver) : (s.setRx l r).lowMark = s.lowMark := by cases l <;> rfl
@[simp] theorem State.setRx_accState (l : Lane) (r : Receiver) : (s.setRx l r).accState = s.accState := by cases l <;> rfl
@[simp] theorem State.setRx_acc (l : Lane) (r : Receiver) : (s.setRx l r).acc = s.acc := by cases l <;> rfl
@[simp] theorem State.setRx_emitter (l : Lane) (r : Receiver) : (s.setRx l r).emitter = s.emitter := by cases l <;> rfl
@[simp] theorem State.setRx_farmFlow (l : Lane) (r : Receiver) : (s.setRx l r).farmFlow = s.farmFlow := by cases l <;> rfl
@[simp] theorem State.setRx_requests (l : Lane) (r : Receiver) : (s.setRx l r).requests = s.requests := by cases l <;> rfl
@[simp] theorem State.setRx_replies (l : Lane) (r : Receiver) : (s.setRx l r).replies = s.replies := by cases l <;> rfl
@[simp] theorem State.setRx_timebase (l : Lane) (r : Receiver) : (s.setRx l r).timebase = s.timebase := by cases l <;> rfl
@[simp] theorem State.setRx_out (l : Lane) (r : Receiver) : (s.setRx l r).out = s.out := by cases l <;> rfl
@[simp] theorem State.setRx_pending (l : Lane) (r : Receiver) : (s.setRx l r).pending = s.pending := by cases l <;> rfl
@[simp] theorem State.setRx_counter (l : Lane) (r : Receiver) (k : Counter) : (s.setRx l r).counter k = s.counter k := by
  cases l <;> rfl
@[simp] theorem State.setRx_freeCount (l : Lane) (r : Receiver) : (s.setRx l r).freeCount = s.freeCount := by cases l <;> rfl
@[simp] theorem State.setRx_front_lane (n : LinkNo) (r : Receiver) :
    s.setRx (.front n) r = s.setFront n { s.front.get n with rx := r } := rfl
@[simp] theorem State.setRx_timing_lane (r : Receiver) : s.setRx .timing r = { s with timing := r } := rfl
@[simp] theorem State.setRx_uplink_lane (r : Receiver) : s.setRx .uplink r = { s with uplink := r } := rfl
@[simp] theorem State.rx_front (n : LinkNo) : s.rx (.front n) = (s.front.get n).rx := rfl
@[simp] theorem State.rx_timing : s.rx .timing = s.timing := rfl
@[simp] theorem State.rx_uplink : s.rx .uplink = s.uplink := rfl

end Sys2Proof.Machine
end

