-- ==== Sys2Proof/Laws/Ops.lean ====
section
/-! SUPPORT. One lemma for each shared operation that says what it can do: the fields it may change (its frame, as an
equation that gives every other field), and what those fields become. -/

namespace Sys2Proof.Machine

variable (s : State)

/-! ### Receivers and counters -/

@[simp] theorem State.setRx_rx_self (l : Lane) (r : Receiver) : (s.setRx l r).rx l = r := by
  cases l <;> simp [State.setRx, State.rx]

@[simp] theorem State.setRx_setRx (l : Lane) (q r : Receiver) : (s.setRx l q).setRx l r = s.setRx l r := by
  cases l <;> simp [State.setRx, State.setFront]

theorem State.setRx_rx_ne {l m : Lane} (r : Receiver) (h : m ≠ l) : (s.setRx l r).rx m = s.rx m := by
  cases l <;> cases m <;> simp_all [State.setRx, State.rx, State.setFront, Bank.get_set]

/-- A raised counter, where the counters are in canonical form. -/
theorem State.counter_bumpBy_self (c : Counter) (k : Nat) (h : Memory.wf 0 s.counters = true) :
    (s.bumpBy c k).counter c = min Config.counterMax (s.counter c + k) := by
  rw [State.counter, State.bumpBy_counters, Memory.read_write_self _ h]

/-- Raising a counter keeps the counters in canonical form. -/
theorem State.wf_bumpBy (c : Counter) (k : Nat) (h : Memory.wf 0 s.counters = true) :
    Memory.wf 0 (s.bumpBy c k).counters = true := Memory.wf_write _ _ h

/-! ### The flow decisions -/

/-- Trigger intake's flow decision changes its flow state and what its return lane has to send, and nothing else. -/
theorem State.evalTiming_frame :
    s.evalTiming = { s with timingFlow := s.evalTiming.timingFlow, timingDue := s.evalTiming.timingDue } := by
  rw [State.evalTiming]
  split <;> rfl

/-- The flow state it leaves is the first row of R70 that applies. -/
theorem State.evalTiming_timingFlow :
    s.evalTiming.timingFlow = timingDecision s.runState s.general s.fill s.freeCount s.timingFlow := by
  rw [State.evalTiming]
  split
  · next h => exact h.symm
  · rfl

/-- A symbol is due exactly when one was due before or the flow state has changed. -/
theorem State.evalTiming_timingDue :
    s.evalTiming.timingDue = if s.evalTiming.timingFlow = s.timingFlow then s.timingDue else .changed := by
  rw [State.evalTiming]
  split <;> simp

/-- The flow decision toward a card changes its front link. -/
theorem State.evalFront_frame (n : LinkNo) : s.evalFront n = { s with front := (s.evalFront n).front } := by
  rw [State.evalFront]
  dsimp only
  split <;> rfl

/-- Every other front link is left alone. -/
theorem State.evalFront_front_ne {n m : LinkNo} (h : m ≠ n) : (s.evalFront n).front.get m = s.front.get m := by
  rw [State.evalFront]
  dsimp only
  split
  · rfl
  · simp [Bank.get_set_ne _ _ h]

/-- The front link it leaves: its flow state follows R88, a change is due, and nothing else of it but its stall timer changes. -/
theorem State.evalFront_front_self (n : LinkNo) :
    let f := s.front.get n
    let g := (s.evalFront n).front.get n
    g.flow = frontDecision f.occupancy f.flow ∧ g.due = (if g.flow = f.flow then f.due else .changed)
      ∧ g = { f with flow := g.flow, due := g.due, rx := { f.rx with stall := g.rx.stall } } := by
  dsimp only
  rw [State.evalFront]
  dsimp only
  split
  · next h => exact ⟨h.symm, by rw [if_pos rfl], rfl⟩
  · next h => simp [h]

/-! ### Word boundaries -/

/-- A word boundary of a return lane changes what is due there, a counter and what the lanes carried. -/
theorem State.wordBoundary_frame (l : Lane) :
    s.wordBoundary l =
      { s with
        front := (s.wordBoundary l).front, timingDue := (s.wordBoundary l).timingDue
        counters := (s.wordBoundary l).counters, out := (s.wordBoundary l).out } := by
  cases l <;> rw [State.wordBoundary] <;> dsimp only [State.sendFlow] <;> split <;> try rfl
  all_goals split <;> rfl

/-- It leaves every front link as it was, but that nothing is due on its own lane. -/
theorem State.wordBoundary_front (l : Lane) (n : LinkNo) :
    (s.wordBoundary l).front.get n =
      if l = .front n then { s.front.get n with due := .none } else s.front.get n := by
  cases l with
  | front m =>
    rw [State.wordBoundary]
    dsimp only [State.sendFlow]
    by_cases h : m = n
    · subst h
      split
      · next e => rw [if_pos rfl, ← e]
      · split <;> simp
    · have h' : n ≠ m := fun e => h e.symm
      have hl : ¬ (Lane.front m = Lane.front n) := fun e => h (Lane.front.inj e)
      rw [if_neg hl]
      split
      · rfl
      · split <;> simp [Bank.get_set_ne _ _ h']
  | timing =>
    rw [State.wordBoundary]
    dsimp only [State.sendFlow]
    split
    · rfl
    · split <;> rfl
  | uplink => rfl

/-- Every receiver stands as it was. -/
@[simp] theorem State.wordBoundary_rx (l m : Lane) : (s.wordBoundary l).rx m = s.rx m := by
  cases m with
  | front n => rw [State.rx, State.wordBoundary_front]; split <;> rfl
  | timing => rw [State.wordBoundary_frame]; rfl
  | uplink => rw [State.wordBoundary_frame]; rfl

/-! ### The store -/

/-- Taking cells: the free cell queue loses its first cells, the low mark follows, and trigger intake decides. -/
theorem State.takeCells_frame (k : Nat) :
    s.takeCells k =
      { s with
        freeQueue := s.freeQueue.drop k, lowMark := min s.lowMark (s.freeCount - k)
        timingFlow := (s.takeCells k).timingFlow, timingDue := (s.takeCells k).timingDue } := by
  conv_lhs => rw [State.takeCells, State.evalTiming_frame]
  rfl

/-- Returning cells: they join the back of the free cell queue, and trigger intake decides. -/
theorem State.returnCells_frame (cells : List Nat) :
    s.returnCells cells =
      { s with
        freeQueue := s.freeQueue ++ cells, timingFlow := (s.returnCells cells).timingFlow
        timingDue := (s.returnCells cells).timingDue } := by
  by_cases h : cells = []
  · subst h; simp [State.returnCells]
  · have e : s.returnCells cells = { s with freeQueue := s.freeQueue ++ cells }.evalTiming := by
      rw [State.returnCells, if_neg h]
    rw [e]
    exact State.evalTiming_frame _

/-- Writing a chain changes the store alone. -/
theorem State.writeChain_frame (cells : List Nat) (start : Nat) (ws : List Word) :
    s.writeChain cells start ws = { s with store := (s.writeChain cells start ws).store } := rfl

/-- Writing a chain keeps the store in canonical form. -/
theorem State.wf_writeChain (cells : List Nat) (start : Nat) (ws : List Word) (h : Memory.wf 0 s.store = true) :
    Memory.wf 0 (s.writeChain cells start ws).store = true := Memory.wf_writeAll _ h

/-! ### Front frames -/

/-- The held frame leaves: the front link may change. -/
theorem State.dropHeld_frame (n : LinkNo) : s.dropHeld n = { s with front := (s.dropHeld n).front } :=
  State.evalFront_frame (s.setFront n { s.front.get n with held := none }) n

/-- A frame given up: its receiver may change, and with it what a front link has to send. -/
theorem State.leaveFrame_frame (l : Lane) (next : FrameState) :
    s.leaveFrame l next =
      { s with
        front := (s.leaveFrame l next).front, timing := (s.leaveFrame l next).timing
        uplink := (s.leaveFrame l next).uplink } := by
  rw [State.leaveFrame]
  dsimp only
  split
  · cases l <;> rfl
  · cases l with
    | front n => rw [State.evalLane, State.evalFront_frame]; rfl
    | timing => rfl
    | uplink => rfl

/-! ### The event table -/

/-- A closure changes the slot, its deadline and a counter. -/
theorem State.closeSlot_frame (i : SlotNo) (cause : Cause) :
    s.closeSlot i cause =
      { s with
        slots := s.slots.set i ((s.slots.get i).close cause)
        deadlines := s.deadlines.set i { s.deadlines.get i with stage := .none }
        counters := (s.closeSlot i cause).counters } := by
  cases cause <;> rfl

/-- A closure with cause ALL_IN raises no counter. -/
theorem State.closeSlot_allIn_counters (i : SlotNo) : (s.closeSlot i .allIn).counters = s.counters := rfl

/-- The ALL_IN test changes at most the slot and its deadline. -/
theorem State.allInCheck_frame (i : SlotNo) :
    s.allInCheck i = { s with slots := (s.allInCheck i).slots, deadlines := (s.allInCheck i).deadlines } := by
  rw [State.allInCheck]
  split <;> rfl

/-- The check after an attachment changes at most the slot and its deadline. -/
theorem State.attachCheck_frame (i : SlotNo) :
    s.attachCheck i = { s with slots := (s.attachCheck i).slots, deadlines := (s.attachCheck i).deadlines } := by
  rw [State.attachCheck]
  split
  · split <;> rfl
  · exact State.allInCheck_frame s i

/-- The lookup of a tag gives a slot that is not FREE and carries it. -/
theorem State.slotOfTag_some {tag : Tag} {i : SlotNo} (h : s.slotOfTag tag = some i) :
    (s.slots.get i).state ≠ .free ∧ (s.slots.get i).tag = tag := by
  have := List.find?_some h
  simpa using this

/-- The lookup gives none exactly when no slot that is not FREE carries the tag. -/
theorem State.slotOfTag_none (tag : Tag) :
    s.slotOfTag tag = none ↔ ∀ i, (s.slots.get i).state ≠ .free → (s.slots.get i).tag ≠ tag := by
  simp [State.slotOfTag, List.find?_eq_none]

/-- A loss notice changes the slots and their deadlines alone. -/
theorem State.lossNotice_frame (n : LinkNo) :
    s.lossNotice n = { s with slots := (s.lossNotice n).slots, deadlines := (s.lossNotice n).deadlines } := by
  have one : ∀ (t : State) (i : SlotNo),
      t.noticeAtSlot n i =
        { t with slots := (t.noticeAtSlot n i).slots, deadlines := (t.noticeAtSlot n i).deadlines } := by
    intro t i
    rw [State.noticeAtSlot]
    split
    · rw [State.allInCheck_frame]; rfl
    · rfl
  have all : ∀ (l : List SlotNo) (t : State),
      l.foldl (fun (t : State) i => t.noticeAtSlot n i) t =
        { t with
          slots := (l.foldl (fun (t : State) i => t.noticeAtSlot n i) t).slots
          deadlines := (l.foldl (fun (t : State) i => t.noticeAtSlot n i) t).deadlines } := by
    intro l
    induction l with
    | nil => intro t; rfl
    | cons i rest ih =>
      intro t
      rw [List.foldl_cons, ih (t.noticeAtSlot n i), one t i]
  exact all _ s

/-- Freeing the slot at get: its record and deadline are emptied, get advances, fill falls, its cells return. -/
theorem State.freeSlotAtGet_frame :
    s.freeSlotAtGet =
      { s with
        slots := s.slots.set s.get Slot.empty, deadlines := s.deadlines.set s.get Deadline.empty
        get := s.get + 1, fill := s.fill - 1, freeQueue := s.freeQueue ++ (s.slots.get s.get).cells
        timingFlow := s.freeSlotAtGet.timingFlow, timingDue := s.freeSlotAtGet.timingDue } := by
  conv_lhs => rw [State.freeSlotAtGet]; dsimp only; rw [State.evalTiming_frame, State.returnCells_frame]
  simp [State.freeSlotAtGet, State.setSlot, State.setDeadline]
  rw [State.returnCells_frame]
  simp

/-! ### The orphan list -/

/-- Dropping a list of copies as stray changes the counters and the error causes alone. -/
theorem State.strays_frame (gone : List Orphan) :
    gone.foldl (fun (t : State) (o : Orphan) => t.strayAtLink o.link) s =
      { s with
        counters := (gone.foldl (fun (t : State) (o : Orphan) => t.strayAtLink o.link) s).counters
        errors := (gone.foldl (fun (t : State) (o : Orphan) => t.strayAtLink o.link) s).errors } := by
  induction gone generalizing s with
  | nil => rfl
  | cons o rest ih => rw [List.foldl_cons, ih (s.strayAtLink o.link)]; rfl

/-- Entries that meet a test leave the orphan list, and their cells return in list order. -/
theorem State.dropOrphans_frame (p : Orphan → Bool) :
    s.dropOrphans p =
      { s with
        orphans := s.orphans.filter (fun o => !p o)
        freeQueue := s.freeQueue ++ (s.orphans.filter p).flatMap Orphan.cells
        counters := (s.dropOrphans p).counters, errors := (s.dropOrphans p).errors
        timingFlow := (s.dropOrphans p).timingFlow, timingDue := (s.dropOrphans p).timingDue } := by
  have fall := State.strays_frame { s with orphans := s.orphans.filter (fun o => !p o) } (s.orphans.filter p)
  have back :
      s.dropOrphans p =
        { List.foldl (fun (t : State) (o : Orphan) => t.strayAtLink o.link)
            { s with orphans := s.orphans.filter (fun o => !p o) } (s.orphans.filter p) with
          freeQueue :=
            (List.foldl (fun (t : State) (o : Orphan) => t.strayAtLink o.link)
              { s with orphans := s.orphans.filter (fun o => !p o) } (s.orphans.filter p)).freeQueue
              ++ (s.orphans.filter p).flatMap Orphan.cells
          timingFlow := (s.dropOrphans p).timingFlow, timingDue := (s.dropOrphans p).timingDue } := State.returnCells_frame _ _
  generalize s.dropOrphans p = t at back ⊢
  generalize List.foldl _ _ _ = u at fall back
  obtain ⟨⟩ := t
  obtain ⟨⟩ := u
  simp only [State.mk.injEq] at fall back ⊢
  simp_all

/-- A copy handed over to a slot: that slot, the adoption queue, the free cells and what goes with them may change. -/
theorem State.adoptInto_frame (i : SlotNo) (o : Orphan) :
    s.adoptInto i o =
      { s with
        slots := (s.adoptInto i o).slots, adoption := (s.adoptInto i o).adoption
        freeQueue := (s.adoptInto i o).freeQueue, counters := (s.adoptInto i o).counters
        errors := (s.adoptInto i o).errors, timingFlow := (s.adoptInto i o).timingFlow
        timingDue := (s.adoptInto i o).timingDue } := by
  rw [State.adoptInto]
  dsimp only
  split
  iterate 3 rfl
  iterate 4 (rw [State.returnCells_frame]; rfl)
  rfl

/-- The copies of a tag leave the orphan list, and each is handed over. -/
theorem State.adoptAll_frame (i : SlotNo) (tag : Tag) :
    s.adoptAll i tag =
      { s with
        orphans := s.orphans.filter (fun o => !(o.tag == tag))
        slots := (s.adoptAll i tag).slots, adoption := (s.adoptAll i tag).adoption
        freeQueue := (s.adoptAll i tag).freeQueue, counters := (s.adoptAll i tag).counters
        errors := (s.adoptAll i tag).errors, timingFlow := (s.adoptAll i tag).timingFlow
        timingDue := (s.adoptAll i tag).timingDue } := by
  have all : ∀ (l : List Orphan) (t : State),
      l.foldl (fun (t : State) o => t.adoptInto i o) t =
        { t with
          slots := (l.foldl (fun (t : State) o => t.adoptInto i o) t).slots
          adoption := (l.foldl (fun (t : State) o => t.adoptInto i o) t).adoption
          freeQueue := (l.foldl (fun (t : State) o => t.adoptInto i o) t).freeQueue
          counters := (l.foldl (fun (t : State) o => t.adoptInto i o) t).counters
          errors := (l.foldl (fun (t : State) o => t.adoptInto i o) t).errors
          timingFlow := (l.foldl (fun (t : State) o => t.adoptInto i o) t).timingFlow
          timingDue := (l.foldl (fun (t : State) o => t.adoptInto i o) t).timingDue } := by
    intro l
    induction l with
    | nil => intro t; rfl
    | cons o rest ih =>
      intro t
      rw [List.foldl_cons, ih (t.adoptInto i o), State.adoptInto_frame t i o]
  rw [State.adoptAll]
  exact all _ _

/-! ### The reset state -/

/-- The memories of the reset state have their canonical form: they list nothing. -/
theorem State.wf_reset :
    Memory.wf 0 State.reset.counters = true ∧ Memory.wf Pad.cold State.reset.pads = true
      ∧ Memory.wf 0 State.reset.store = true ∧ Memory.wf AccEntry.cold State.reset.acc = true := ⟨rfl, rfl, rfl, rfl⟩

end Sys2Proof.Machine
end

