-- ==== Sys2Proof/Laws/Requests.lean ====
section
/-! SUPPORT. What taking a request does: nothing unless run control may take the head of the queue and the head belongs to
the row, and else exactly one reply. -/

namespace Sys2Proof.Machine

variable (s : State) (row : RequestRow) (run : State → Request → Answer)

/-- No request waits: nothing happens. -/
theorem State.take_empty (h : s.requests = []) : s.take row run = s := by rw [State.take, h]

/-- Run control may not take a request: nothing happens. -/
theorem State.take_blocked (h : s.mayTake = false) : s.take row run = s := by
  rw [State.take]
  split
  · rfl
  · rw [if_neg]; simp [h]

/-- The head of the queue belongs to another row: nothing happens. -/
theorem State.take_other {content : List Word} {rest : List (List Word)} (h : s.requests = content :: rest)
    (hr : rowOf content ≠ row) : s.take row run = s := by
  rw [State.take, h]
  dsimp only
  rw [if_neg]
  exact fun e => hr e.2

/-- The head is refused by the checks before execution: it leaves the queue, and the reply says why. -/
theorem State.take_refused {content : List Word} {rest : List (List Word)} {r : Result}
    (h : s.requests = content :: rest) (hm : s.mayTake = true) (hr : rowOf content = row)
    (hj : judge content = .refuse r) :
    s.take row run = { s with requests := rest, replies := s.replies ++ [replyTo content r []] } := by
  rw [State.take, h]
  dsimp only
  rw [if_pos ⟨hm, hr⟩, hj]
  rfl

/-- The head passes the checks: it is executed with the queue's rest, and its reply is appended. -/
theorem State.take_passed {content : List Word} {rest : List (List Word)} {q : Request}
    (h : s.requests = content :: rest) (hm : s.mayTake = true) (hr : rowOf content = row)
    (hj : judge content = .pass q) :
    s.take row run = (run { s with requests := rest } q).finish content := by
  rw [State.take, h]
  dsimp only
  rw [if_pos ⟨hm, hr⟩, hj]

end Sys2Proof.Machine
end

