-- ==== Sys2Proof/Laws/Slot.lean ====
section
/-! SUPPORT. The tests and updates of one slot record, in the manual's words: OPEN or EXTENDED, something in the
conditioning unit, the ALL_IN condition, the closure. -/

namespace Sys2Proof.Machine

variable (x : Slot)

/-- A slot is open when it is OPEN or EXTENDED. -/
theorem Slot.isOpen_iff : x.isOpen = true ↔ x.state = .opened ∨ x.state = .extended := by simp [Slot.isOpen]

/-- A slot is busy when a contribution is QUEUED or CONDITIONING or an extra is in conditioning. -/
theorem Slot.busy_iff :
    x.busy = true ↔
      ∃ n, x.contribs.get n = some .queued ∨ x.contribs.get n = some .conditioning
        ∨ x.extras.get n = some .conditioning := by
  simp only [Slot.busy, Bool.or_eq_true, Bank.any_iff, beq_iff_eq]
  constructor
  · rintro (⟨n, h | h⟩ | ⟨n, h⟩)
    · exact ⟨n, .inl h⟩
    · exact ⟨n, .inr (.inl h)⟩
    · exact ⟨n, .inr (.inr h)⟩
  · rintro ⟨n, h | h | h⟩
    · exact .inl ⟨n, .inl h⟩
    · exact .inl ⟨n, .inr h⟩
    · exact .inr ⟨n, h⟩

/-- No contribution is AWAITED exactly when their count is 0. -/
theorem Slot.awaited_eq_zero : x.awaited = 0 ↔ ∀ n, x.contribs.get n ≠ some .awaited := by
  simp [Slot.awaited, Bank.count_eq_zero]

/-- The ALL_IN condition: no contribution AWAITED, and the slot not busy. -/
theorem Slot.allIn_iff : x.allIn = true ↔ (∀ n, x.contribs.get n ≠ some .awaited) ∧ ¬ x.busy = true := by
  simp [Slot.allIn, Slot.awaited_eq_zero]

/-- A closure keeps the extras set and the records. -/
@[simp] theorem Slot.close_extras (c : Cause) : (x.close c).extras = x.extras := rfl
@[simp] theorem Slot.close_records (c : Cause) : (x.close c).records = x.records := rfl
@[simp] theorem Slot.close_cause (c : Cause) : (x.close c).cause = c := rfl
@[simp] theorem Slot.close_tag (c : Cause) : (x.close c).tag = x.tag := rfl
@[simp] theorem Slot.close_cls (c : Cause) : (x.close c).cls = x.cls := rfl
@[simp] theorem Slot.close_state (c : Cause) : (x.close c).state = if x.busy then .closing else .closed := rfl
@[simp] theorem Slot.close_contribs (c : Cause) (n : LinkNo) :
    (x.close c).contribs.get n = closeContribution (x.contribs.get n) := by
  rw [Slot.close]; exact Bank.get_map _ _ _

/-- A closure leaves a slot as busy as it was. -/
@[simp] theorem Slot.close_busy (c : Cause) : (x.close c).busy = x.busy := by
  have h : ∀ n k, k = Contribution.queued ∨ k = Contribution.conditioning →
      ((x.close c).contribs.get n = some k ↔ x.contribs.get n = some k) := by
    intro n k hk
    rw [Slot.close_contribs, closeContribution]
    split
    · next e => rw [e]; rcases hk with rfl | rfl <;> simp
    · rfl
  rw [Bool.eq_iff_iff, Slot.busy_iff, Slot.busy_iff]
  simp only [h _ _ (.inl rfl), h _ _ (.inr rfl), Slot.close_extras]

/-- After a closure no contribution is AWAITED. -/
theorem Slot.close_not_awaited (c : Cause) (n : LinkNo) : (x.close c).contribs.get n ≠ some .awaited := by
  rw [Slot.close_contribs, closeContribution]
  split <;> simp_all

end Sys2Proof.Machine
end

