-- ==== Sys2Proof/WellFormed.lean ====
section
/-! DEFINITION. Which commands are well formed. Link, slot and class numbers carry their ranges in their
types, so one check is left: INBOUND_FLOW_SYMBOL names a front link or the timing link. -/

namespace Sys2Proof

/-- A HOLD or GO on the uplink is the FARM_FLOW_SYMBOL row, so INBOUND_FLOW_SYMBOL does not name it. -/
def Instr.WellFormed : Instr → Bool
  | .inboundFlowSymbol .uplink _ => false
  | .inboundFlowSymbol (.front _) _ => true
  | .inboundFlowSymbol .timing _ => true
  | .coldReset | .symbolLock _ | .linkIdle _ | .linkStart _ | .linkDataWord _ _ | .linkEnd _ | .linkCut _
  | .linkCodeError _ | .farmFlowSymbol _ | .frontStallExpiry _ | .timingStallExpiry | .requestStallExpiry
  | .arbiterGrant _ | .burstProcessing | .conditioningJobEnd | .parkJobEnd | .firstExpiry _ | .secondExpiry _
  | .orphanExpiry | .eventFrameStart | .eventFrameWordSent | .eventFrameEnd | .replyFrameStart | .replyFrameEnd
  | .drainCompletion | .read | .write | .writeGeneral | .writeWindows | .writeRows | .setupDone | .start | .stop
  | .flush | .warmReset | .clearCounters | .clearErrors | .barLink | .unbarLink | .pedestalStart | .pedestalStop
  | .pedestalAdopt | .undefinedRequest => true

end Sys2Proof
end

