-- ==== Sys2Proof/Tests/Slice0.lean ====
section
/-! SUPPORT. Tests of our own. First the manual's worked values; then, for every statement with hypotheses, one witness
theorem: concrete states and operands that meet the hypotheses of each of its clauses, at the ends of their ranges. -/

namespace Sys2Proof.Tests

open Sys2Proof Sys2Proof.Machine Sys2Proof.Safety

/-! ### The manual's worked values -/

/-- The one check of WellFormed: a flow symbol on the uplink is not INBOUND_FLOW_SYMBOL. -/
theorem test_wellformed_refuses_uplink :
    Instr.WellFormed (.inboundFlowSymbol .uplink .go) = false
      ∧ Instr.WellFormed (.inboundFlowSymbol .timing .hold) = true := by decide

/-- No row of the table gives bits. -/
theorem test_no_word_spells_a_command : decodeTableWord 16 0 = none := by decide

/-- The table of R193. -/
theorem test_crc_words :
    crcOf [] = 0xFFFF ∧ crcOf [0x0000] = 0x1D0F ∧ crcOf [0xFFFF] = 0x0000 ∧ crcOf [0xFFFF, 0x0000] = 0x0000 := by
  decide +kernel

/-- Groups of R192: prefix 10 a data word, prefix 01 a symbol, and a payload one bit off a code error. -/
theorem test_groups_are_read :
    decodeGroup 0b101100001111000011#18 = .data 0xC3C3 ∧ decodeGroup 0b011100001111000011#18 = .idle
      ∧ decodeGroup 0b011111000000001111#18 = .start ∧ decodeGroup 0b010000111111110000#18 = .endCode
      ∧ decodeGroup 0b010011110011000011#18 = .cut ∧ decodeGroup 0b011001011010010110#18 = .flow .hold
      ∧ decodeGroup 0b010110100101101001#18 = .flow .go ∧ decodeGroup 0b011100001111000010#18 = .error
      ∧ decodeGroup 0b001100001111000011#18 = .error ∧ decodeGroup 0b111100001111000011#18 = .error := by decide

/-- The worked correction of 7.5. -/
theorem test_correction :
    correct 402 288 180 = 89 ∧ correct 402 288 101 = 1 ∧ correct 402 288 100 = 0 ∧ correct 402 288 1022 = 1023
      ∧ correct 402 288 1023 = 1023 ∧ correct 402 256 101 = 1 := by decide

/-- The corrected samples of the worked suppression of 7.6. -/
def workedSamples : List Sample :=
  ([3, 5, 25, 40, 18, 4, 2, 22, 3, 30, 31, 6, 2, 1].zipIdx).map (fun p => ⟨295 + p.2, 0, p.1⟩)

/-- The settings of the worked suppression. -/
def workedClass : ClassEntry :=
  { ClassEntry.cold with preSamples := 1, postSamples := 2, minWidth := 2, mergeGap := 1, driftWindow := 1000 }

/-- The worked suppression of 7.6 and its four settings. -/
theorem test_suppression :
    pulseSpans workedClass 20 workedSamples = [(1, 5), (8, 12)]
      ∧ pulseSpans { workedClass with mergeGap := 2 } 20 workedSamples = [(1, 12)]
      ∧ pulseSpans { workedClass with minWidth := 1 } 20 workedSamples = [(1, 12)]
      ∧ ((pulseSpans { workedClass with preSamples := 3 } 20 workedSamples).map Prod.fst).head? = some 0 := by decide

/-- The row table of the worked mapping of 6.8. -/
def workedRows : Bank Nat 48 := ((State.reset.rows.set 0 120).set 1 128).set 2 136

/-- The windows of the worked mapping. -/
def workedWindows : Bank MapWindow 64 :=
  ((((State.reset.windows.set 0 ⟨true, 3, 0, 64, 1, 0, .ascending⟩).set 1 ⟨true, 3, 64, 64, 1, 127, .descending⟩).set 2
    ⟨true, 4, 0, 120, 0, 119, .descending⟩).set 3 ⟨true, 3, 60, 8, 2, 10, .ascending⟩).set 4 ⟨true, 4, 120, 8, 2, 0, .ascending⟩

/-- The seven lookups of the worked mapping. -/
theorem test_mapping :
    let look := lookupPad workedWindows workedRows
    look 3 5 = some ⟨1, 5, 125⟩ ∧ look 3 62 = some ⟨1, 62, 182⟩ ∧ look 3 100 = some ⟨1, 91, 211⟩
      ∧ look 4 0 = some ⟨0, 119, 119⟩ ∧ look 4 119 = some ⟨0, 0, 0⟩ ∧ look 4 125 = some ⟨2, 5, 253⟩ ∧ look 5 0 = none := by
  decide +kernel

/-- Slot 12 of the worked event frame of 12.9, its timestamp 1, 2, 3. -/
def workedSlot : Slot :=
  { Slot.empty with
    state := .closed, tag := 3300, cls := 0, stamp := 0x000100020003, status := .complete, cause := .allIn, late := 1
    contribs := ((Bank.fill 24 none).set 4 (some .arrived)).set 9 (some .arrived)
    records :=
      ((Bank.fill 24 none).set 4 (some ⟨[200, 201], 2, 70, FragFlags.clear⟩)).set 9
        (some ⟨[310], 1, 30, { FragFlags.clear with truncated := true, storeFull := true }⟩) }

/-- The part of the worked event frame: segment id 12, class 0 expecting links 4 and 9. -/
def workedPart : State :=
  { State.reset with
    general := { General.cold with segment := 12 }
    classes := State.reset.classes.set 0 { ClassEntry.cold with kind := .physics, expected := 0x000210 } }

/-- The header, a section's flags and the trailer of the worked event frame. -/
theorem test_event_frame :
    workedPart.eventHeader workedSlot =
        [0x200C, 3300, 0x0110, 1, 2, 3, 0, 0x0210, 0, 0x0210, 0, 0, 0, 0, 0, 0, 0, 0, 0, 2]
      ∧ workedPart.eventWord workedSlot (.sect 9 1) = some 0x0018 ∧ workedPart.eventWord workedSlot (.trailer 0) = some 0x0100
      ∧ workedPart.eventWord workedSlot (.trailer 2) = some 131 := by decide +kernel

/-- A link of the arrived set that is in the extra set as well is counted in both (R160). -/
theorem test_section_count_adds_the_sets :
    let both : Slot := { workedSlot with extras := (Bank.fill 24 none).set 4 (some .recorded) }
    workedSlot.sectionCount = 2 ∧ both.sectionCount = 3 := by decide

/-! ### States for the witnesses -/

/-- A small running part: every link LIVE, class 1 PHYSICS with links 0 and 1 expected, class 2 PEDESTAL, segment 12, row 0
of 100 pads with channels 0 to 49 of link 0 on its pads 0 to 49, and four free cells. -/
def run : State :=
  { State.reset with
    runState := .running, locked := true, freeQueue := [0, 1, 2, 3], lowMark := 4, timingFlow := .go
    general := { General.cold with segment := 12, cellHold := 0, cellResume := 0 }
    classes :=
      (State.reset.classes.set 1 { ClassEntry.cold with kind := .physics, expected := 3 }).set 2
        { ClassEntry.cold with kind := .pedestal, expected := 1 }
    front := Bank.fill 24 { FrontLink.cold with rx := Receiver.quiet .live }
    timing := Receiver.quiet .live, uplink := Receiver.quiet .live
    rows := State.reset.rows.set 0 100
    windows := State.reset.windows.set 0 { MapWindow.cold with valid := true, count := 50 } }

/-- A slot OPEN for tag 7, of class 1, with both links AWAITED. -/
def slot : Slot :=
  { Slot.empty with
    state := .opened, tag := 7, cls := 1, contribs := ((Bank.fill 24 none).set 0 (some .awaited)).set 1 (some .awaited) }

/-- The running part with one slot, at get, and its deadline due now. -/
def withSlot (x : Slot) : State :=
  { run with
    slots := run.slots.set 0 x, put := 1, fill := 1, newestTag := some 7
    deadlines := run.deadlines.set 0 ⟨.first, 0, 0⟩ }

/-- A receiver in the middle of a frame. -/
def inFrame (words : List Word) : Receiver :=
  { Receiver.quiet .live with frame := .receiving, words := words, crc := crcOf words.dropLast, stall := some 0 }

/-- The running part with one front link replaced. -/
def withFront (f : FrontLink) : State := run.setFront 0 f

/-- A LIVE front link that holds these committed frames. -/
def holding (waiting : List (List Word)) : FrontLink :=
  { FrontLink.cold with rx := Receiver.quiet .live, waiting := waiting }

/-- A fragment of tag 7 with one burst of two samples on channel 0. -/
def fragment : List Word := [0x100C, 7, 0, 0, 5, 2, 100, 200, 0]

/-- A state with a job in progress for the slot at get, on link 0, its burst not yet read. -/
def jobOf (outcome : JobOutcome) (source : JobSource) : Job :=
  { requester := 0, link := 0, source := source, outcome := outcome, tag := 7, urgent := false, cells := [],
    pulseCount := 0, wordCount := 0, flags := FragFlags.clear, position := 3, stopped := false, skipCounted := false }

/-- A state whose job holds a frame of link 0. -/
def working (x : Slot) (frame : List Word) (outcome : JobOutcome) : State :=
  { (withSlot x).setFront 0 { holding [] with held := some frame } with job := some (jobOf outcome .fifo) }

/-- A slot with link 0 in the conditioning unit. -/
def slotWorking : Slot := { slot with contribs := slot.contribs.set 0 (some .conditioning) }

/-- A part with a request at the head of the queue, which run control may take. -/
def asking (s : State) (content : List Word) : State :=
  { s with requests := [content], executing := false, replies := [] }

/-- The running part with a request at the head of the queue. -/
def asked (content : List Word) : State := asking run content

/-! ### Word boundaries (R93, R89) -/

/-- Two changes before one word boundary send one symbol, the state after both; the next boundary sends none; a change to HOLD is
counted as it is sent, and a symbol sent again after entry to LIVE is not. -/
theorem test_one_symbol_at_a_boundary :
    let at_ (f : Flow) (d : Due) := (withFront { holding [] with flow := f, due := d }).wordBoundary (.front 0)
    (at_ .go .changed).out = [(.front 0, .flow .go)] ∧ ((at_ .go .changed).wordBoundary (.front 0)).out.length = 1
      ∧ (at_ .go .changed).counter (.link .holdSent 0) = 0 ∧ (at_ .hold .changed).counter (.link .holdSent 0) = 1
      ∧ (at_ .hold .again).out = [(.front 0, .flow .hold)] ∧ (at_ .hold .again).counter (.link .holdSent 0) = 0 := by
  decide +kernel

/-- Where no symbol is due, a word boundary changes nothing. -/
theorem boundary_front (f : FrontLink) (h : f.due = .none) : Spec.boundary (withFront f) (.front 0) = withFront f :=
  if_pos h

theorem boundary_timing (r : Receiver) : Spec.boundary { run with timing := r } .timing = { run with timing := r } := rfl

/-! ### Witnesses: the queue of commands and the invariants -/

theorem witness_StepRunsTheFrontCommand : { run with pending := [.flush] }.pending = [.flush] := rfl

/-- Nothing due; and a slot's deadline due now. -/
theorem witness_IdleStepEndsAMicrosecond :
    (run.pending = [] ∧ Spec.nothingDue run) ∧ (withSlot slot).pending = [] ∧ DeadlinesMatch (withSlot slot)
      ∧ ¬ Spec.nothingDue (withSlot slot) := by
  refine ⟨⟨rfl, by decide, by decide, ?_⟩, rfl, by unfold DeadlinesMatch; decide, fun h => ?_⟩
  · rintro (n | _ | _)
    · revert n; decide
    · decide
    · decide
  · exact absurd (h.1 0) (by decide)

/-- A state in the middle of a run: one OPEN slot of tag 7 with its deadline, one parked copy in the last cell. -/
def busyWith (free : List Nat) : State :=
  { withSlot slot with
    freeQueue := free, lowMark := 8191, orphans := [⟨3, 9, 0, [8191], 5⟩]
    pending := [.inboundFlowSymbol .timing .go] }

/-- `busyWith` with every other cell free. -/
def busy : State := busyWith (List.range 8191)

/-- No cell of `busyWith` is held but the parked copy's. -/
theorem busyWith_cells (q : List Nat) : (busyWith q).freeQueue ++ ownedCells (busyWith q) = q ++ [8191] := by
  have h : ownedCells (busyWith []) = [8191] := by decide +kernel
  exact congrArg (q ++ ·) h

theorem busyWith_freeCount (q : List Nat) : (busyWith q).freeCount = q.length := rfl

/-- `busy` meets every invariant that the step statements take as a premise, and its step answers a next state. -/
theorem witness_invariants :
    RunControlSound busy ∧ QueuesBounded busy ∧ JobSound busy ∧ MemoriesCanonical busy ∧ CountersBounded busy
      ∧ DeadlinesMatch busy ∧ RingSound busy ∧ IdleOutsideRun busy ∧ TagsDistinct busy ∧ AssemblySound busy
      ∧ ContributionsMatch busy ∧ CountsInRange busy
      ∧ CellsConserved busy ∧ ChainsSound busy ∧ ReceiversSound busy ∧ FlowSettled busy ∧ SettingsInRange busy
      ∧ ∃ t, step busy = .next t := by
  refine ⟨?_, ?_, ?_, ?_, ?_, ?_, ?_, ?_, ?_, ?_, ?_, ?_, ?_, ?_, ?_, ?_, ?_, _, rfl⟩
  · unfold RunControlSound; decide
  · unfold QueuesBounded; decide
  · refine ⟨fun n => ?_, fun j h => by cases h⟩
    have h : (busy.front.get n).held = none := by revert n; decide
    exact ⟨fun e => absurd h e, fun ⟨_, hj, _⟩ => nomatch hj⟩
  · unfold MemoriesCanonical; decide
  · exact fun _ => Nat.zero_le _
  · unfold DeadlinesMatch; decide
  · unfold RingSound ringSlot; decide
  · rintro (h | h) <;> cases h
  · unfold TagsDistinct; decide +kernel
  · unfold AssemblySound SlotSound; decide +kernel
  · unfold ContributionsMatch; decide +kernel
  · exact ⟨fun _ => ⟨Nat.zero_le _, Nat.zero_le _⟩, by decide +kernel, by decide⟩
  · have h : allCells = List.range (8191 + 1) := congrArg List.range (rfl : Config.cellCount = 8191 + 1)
    have all (n : Nat) : (List.range n ++ [n]).Perm (List.range (n + 1)) := by rw [List.range_succ]
    rw [busy, CellsConserved, busyWith_cells, h]
    exact all 8191
  · unfold ChainsSound chainFits
    refine ⟨fun j h => (nomatch h : False).elim, by decide, by decide, ?_⟩
    intro i n r _ h
    have none : ∀ i n, (busy.slots.get i).records.get n = none := by decide +kernel
    simp [none] at h
  · unfold ReceiversSound FrontSound ReceiverSound
    decide +kernel
  · have h : busy.freeCount = 8191 := by rw [busy, busyWith_freeCount, List.length_range]
    refine ⟨?_, by decide +kernel⟩
    rw [h]; decide
  · refine ⟨by unfold GeneralInRange; decide, by unfold ClassInRange; decide, by decide, by decide,
      by unfold WindowInRange; decide, fun k => ?_⟩
    show PadInRange Pad.cold
    unfold PadInRange; decide

/-- `busy` holds the lock, its next command is not a cold reset, and so does a part in SETUP meet the second premise. -/
theorem witness_SetupLockFixesTheMapping :
    busy.locked = true ∧ busy.pending.head? ≠ some .coldReset
      ∧ RunControlSound State.reset ∧ (State.reset.locked = true → Spec.mappingInjective State.reset) := by
  refine ⟨rfl, by decide, by unfold RunControlSound; decide, fun h => by cases h⟩

/-- A counter at its limit. -/
theorem witness_CountersRiseByOneAndStop :
    MemoriesCanonical { run with counters := [(0, 4294967295)] } := by
  unfold MemoriesCanonical; decide

/-- The flow decisions at their levels: 2,048 and 6,144 words, 40 and 56 slots. -/
theorem witness_FlowSymbolsFollowTheTables :
    ((run.front.get 0).occupancy ≤ 2048 ∧ (run.front.get 0).flow = .go)
      ∧ ({ holding [List.replicate 2048 0] with flow := .hold }.occupancy = 2048)
      ∧ ((holding [List.replicate 6144 0]).occupancy = 6144)
      ∧ { run with fill := 56 }.general.eventHold ≤ { run with fill := 56 }.fill
      ∧ ({ run with fill := 40, timingFlow := .hold }.fill ≤ run.general.eventRelease
          ∧ run.general.cellResume ≤ run.freeQueue.length) := by
  refine ⟨by decide, ?_, ?_, by decide, by decide⟩ <;> simp [holding, FrontLink.occupancy, FrontLink.cold, Receiver.quiet, -List.reduceReplicate]

/-- A slot whose last AWAITED link is lost, one that waits for another, and one that has closed. -/
theorem witness_LossNoticeTurnsAwaitedToLost :
    (Spec.isOpen slot ∧ slot.contribs.get 0 = some .awaited
        ∧ ¬ Spec.allIn { slot with contribs := slot.contribs.set 0 (some .lost) })
      ∧ Spec.allIn { slot with contribs := (slot.contribs.set 1 (some .arrived)).set 0 (some .lost) }
      ∧ ¬ Spec.isOpen { slot with state := .closed } := by decide +kernel

/-! ### Witnesses: receivers and frames -/

/-- Every link state of every kind of lane, the IDLE count at 62 and at 63, and each code that arrives; and a lane with a symbol
due. -/
theorem witness_ReceiverStatesMoveAsTheLineGoes :
    (State.reset.rx .timing).link = .dark ∧ (run.rx .timing).link ≠ .dark
      ∧ (Spec.boundary (run.setRx .uplink { Receiver.quiet .aligning with idleCount := 62 }) .uplink).rx .uplink
          = { Receiver.quiet .aligning with idleCount := 62 }
      ∧ (Spec.boundary (run.setRx (.front 23) { Receiver.quiet .aligning with idleCount := 63 }) (.front 23)).rx (.front 23)
          = { Receiver.quiet .aligning with idleCount := 63 }
      ∧ (Spec.boundary (run.setRx (.front 0) (Receiver.quiet .barred)) (.front 0)).rx (.front 0) = Receiver.quiet .barred
      ∧ ((Spec.boundary (withFront { holding [] with due := .changed }) (.front 0)).rx (.front 0)).link = .live
      ∧ Lane.timing ≠ Lane.uplink
      ∧ Spec.arrivesOn .timing (.linkStart .timing) ∧ Spec.arrivesOn (.front 0) (.linkDataWord (.front 0) 5)
      ∧ Spec.arrivesOn .uplink (.linkEnd .uplink) ∧ Spec.arrivesOn (.front 0) (.linkCut (.front 0))
      ∧ Spec.arrivesOn .timing (.inboundFlowSymbol .timing .hold) ∧ Spec.arrivesOn .uplink (.farmFlowSymbol .go) := by
  refine ⟨by decide, by decide, rfl, rfl, rfl, rfl, by decide, .inl rfl, .inr (.inl ⟨5, rfl⟩), .inr (.inr (.inl rfl)),
    .inr (.inr (.inr (.inl rfl))), .inr (.inr (.inr (.inr (.inl ⟨by decide, _, rfl⟩)))),
    .inr (.inr (.inr (.inr (.inr ⟨rfl, _, rfl⟩))))⟩

/-- A symbol of each kind, by the farm flow state; and an event frame that the farm holds. -/
theorem witness_FarmFlowSymbolsHoldAndResume :
    (run.uplink.link = .live ∧ run.farmFlow = .go)
      ∧ ({ run with farmFlow := .hold }.uplink.link = .live ∧ { run with farmFlow := .hold }.farmFlow = .hold)
      ∧ { run with emitter := { Emitter.idle with frame := .event, held := true } }.emitter.held = true := by decide

/-- A front link in the middle of a frame, and the states with such a frame on each kind of lane. -/
def frontIn (words : List Word) : FrontLink := { holding [] with rx := inFrame words }

/-- A receiver in the middle of a frame meets `Spec.receiving` after the word boundary, on each kind of lane and whatever its
words. -/
theorem witness_receiving (words : List Word) :
    Spec.receiving (Spec.boundary (withFront (frontIn words)) (.front 0)) (.front 0)
      ∧ Spec.receiving (Spec.boundary { run with timing := inFrame words } .timing) .timing
      ∧ Spec.receiving { run with uplink := inFrame words } .uplink := by
  rw [boundary_front _ rfl, boundary_timing]
  exact ⟨⟨rfl, rfl, rfl⟩, ⟨rfl, rfl, rfl⟩, rfl, rfl, rfl⟩

/-- A receiver that is LIVE and outside a frame, on each lane (with `witness_receiving`). -/
theorem witness_StartOpensAFrame :
    ((Spec.boundary run .timing).rx .timing).link = .live ∧ ((Spec.boundary run .timing).rx .timing).frame ≠ .receiving
      ∧ ((Spec.boundary run (.front 0)).rx (.front 0)).frame ≠ .receiving ∧ (run.rx .uplink).frame ≠ .receiving := by decide

/-- A LIVE receiver OUTSIDE and DISCARDING, on a lane. -/
def waitingFor (f : FrameState) : Receiver := { Receiver.quiet .live with frame := f }

/-- OUTSIDE and DISCARDING, and a frame in RECEIVING at each limit: 4,096 words, a full FIFO, a first word that is foreign by
its format and by its segment, and one that is good; 6 and 5 words on the timing link, 512 and 511 on the uplink. Each state stands
as it is after the word boundary, and meets `Spec.receiving` by `witness_receiving`. -/
theorem witness_DataWordsJoinOrDiscardTheFrame :
    let after (f : FrontLink) := (Spec.boundary (withFront f) (.front 0)).front.get 0
    let timing (r : Receiver) := (Spec.boundary { run with timing := r } .timing).timing
    let full := { frontIn [0] with waiting := [List.replicate 8191 0] }
    ((after (holding [])).rx.link = .live ∧ (after (holding [])).rx.frame = .outside)
      ∧ ((after { holding [] with rx := waitingFor .discarding }).rx.link = .live
          ∧ (after { holding [] with rx := waitingFor .discarding }).rx.frame = .discarding)
      ∧ 4096 ≤ (after (frontIn (List.replicate 4096 0))).rx.words.length
      ∧ (8192 ≤ (after full).occupancy ∧ (after full).rx.words.length < 4096
          ∧ Spec.receiving (Spec.boundary (withFront full) (.front 0)) (.front 0))
      ∧ ((after (frontIn [])).rx.words = [] ∧ (after (frontIn [])).occupancy < 8192
          ∧ (0x200C : Word).toNat / 4096 ≠ 1 ∧ (0x100D : Word).toNat % 64 ≠ run.general.segment
          ∧ (0x100C : Word).toNat / 4096 = 1 ∧ (0x100C : Word).toNat % 64 = run.general.segment)
      ∧ ((timing (waitingFor .discarding)).link = .live ∧ (timing (waitingFor .discarding)).frame ≠ .receiving)
      ∧ 6 ≤ (timing (inFrame (List.replicate 6 0))).words.length ∧ (timing (inFrame (List.replicate 5 0))).words.length < 6
      ∧ (run.uplink.link = .live ∧ run.uplink.frame = .outside)
      ∧ ({ run with uplink := waitingFor .discarding }.uplink.link = .live
          ∧ { run with uplink := waitingFor .discarding }.uplink.frame = .discarding)
      ∧ 512 ≤ { run with uplink := inFrame (List.replicate 512 0) }.uplink.words.length
      ∧ { run with uplink := inFrame (List.replicate 511 0) }.uplink.words.length < 512 := by
  have long (n : Nat) : (List.replicate n (0 : Word)).length = n := List.length_replicate
  refine ⟨⟨rfl, rfl⟩, ⟨rfl, rfl⟩, (long 4096).ge, ⟨?_, ?_, rfl, rfl, rfl⟩, by decide, by decide, (long 6).ge, ?_, ⟨rfl, rfl⟩,
    ⟨rfl, rfl⟩, (long 512).ge, ?_⟩
  · have full (n : Nat) : n + 1 ≤
        ((Spec.boundary (withFront { frontIn [0] with waiting := [List.replicate n 0] }) (.front 0)).front.get 0).occupancy := by
      rw [boundary_front _ rfl]
      change n + 1 ≤ { frontIn [0] with waiting := [List.replicate n 0] }.occupancy
      simp [FrontLink.occupancy, frontIn, holding, inFrame, FrontLink.cold]
    exact full 8191
  · decide
  · decide
  · exact (long 511).symm ▸ Nat.lt_succ_self 511

/-- A front link outside a frame and in DISCARDING; three words; four whose CRC fails; four whose CRC is good, in READY, in RUNNING
and in DRAINING. -/
theorem witness_FrontFramesAreJudgedAtTheirEnd :
    let s (r : RunState) (rx : Receiver) := Spec.boundary { withFront { holding [] with rx := rx } with runState := r } (.front 0)
    let good := inFrame [0x100C, 7, 0, crcOf [0x100C, 7, 0]]
    let words (r : RunState) (rx : Receiver) := ((s r rx).front.get 0).rx.words
    (((s .running (waitingFor .outside)).front.get 0).rx.link = .live
        ∧ ((s .running (waitingFor .outside)).front.get 0).rx.frame = .outside)
      ∧ ((s .running (waitingFor .discarding)).front.get 0).rx.frame = .discarding
      ∧ (Spec.receiving (s .running (inFrame [0x100C, 7, 0])) (.front 0) ∧ (words .running (inFrame [0x100C, 7, 0])).length < 4)
      ∧ (Spec.receiving (s .running (inFrame [0x100C, 7, 0, 0])) (.front 0)
          ∧ 4 ≤ (words .running (inFrame [0x100C, 7, 0, 0])).length
          ∧ Spec.crcFails (words .running (inFrame [0x100C, 7, 0, 0])))
      ∧ (Spec.receiving (s .ready good) (.front 0) ∧ 4 ≤ (words .ready good).length ∧ ¬ Spec.crcFails (words .ready good)
          ∧ Spec.tablesOpen (s .ready good))
      ∧ (Spec.receiving (s .draining good) (.front 0) ∧ 4 ≤ (words .draining good).length
          ∧ ¬ Spec.crcFails (words .draining good) ∧ (s .draining good).runState = .draining) := by decide +kernel

/-- OUTSIDE and DISCARDING; one word; two whose CRC fails; two whose CRC is good, with a queue of 3 and of 4. -/
theorem witness_RequestFramesAreJudgedAtTheirEnd :
    let s (rx : Receiver) (q : List (List Word)) := { run with uplink := rx, requests := q }
    let good := inFrame [3, crcOf [3]]
    ((s (waitingFor .outside) []).uplink.link = .live ∧ (s (waitingFor .outside) []).uplink.frame = .outside)
      ∧ (s (waitingFor .discarding) []).uplink.frame = .discarding
      ∧ (Spec.receiving (s (inFrame [3]) []) .uplink ∧ (inFrame [3]).words.length < 2)
      ∧ (Spec.receiving (s (inFrame [3, 0]) []) .uplink ∧ 2 ≤ (inFrame [3, 0]).words.length
          ∧ Spec.crcFails (inFrame [3, 0]).words)
      ∧ (Spec.receiving (s good [[1], [2], [3]]) .uplink ∧ 2 ≤ good.words.length ∧ ¬ Spec.crcFails good.words
          ∧ (s good [[1], [2], [3]]).requests.length < 4)
      ∧ (Spec.receiving (s good [[1], [2], [3], [4]]) .uplink ∧ 4 ≤ (s good [[1], [2], [3], [4]]).requests.length) := by
  decide +kernel

/-- DISCARDING and OUTSIDE on each lane (RECEIVING: `witness_receiving`). -/
theorem witness_CutEndsAFrame :
    let front (f : FrameState) := Spec.boundary (withFront { holding [] with rx := waitingFor f }) (.front 0)
    let timing (f : FrameState) := Spec.boundary { run with timing := waitingFor f } .timing
    (((timing .discarding).rx .timing).link = .live ∧ ((timing .discarding).rx .timing).frame = .discarding)
      ∧ (((front .outside).front.get 0).rx.link = .live ∧ ((front .outside).front.get 0).rx.frame = .outside)
      ∧ ((timing .outside).timing.link = .live ∧ (timing .outside).timing.frame = .outside)
      ∧ (run.uplink.link = .live ∧ run.uplink.frame = .outside) := by decide

/-- ALIGNING; and LIVE with two errors counted, outside a frame and in one, on each lane. -/
theorem witness_CodeErrorsAreCounted :
    let one : Receiver := { waitingFor .outside with codeErrors := 2 }
    let two : Receiver := { inFrame [5, 6] with codeErrors := 2 }
    let front (r : Receiver) := (Spec.boundary (withFront { holding [] with rx := r }) (.front 0)).front.get 0
    let timing (r : Receiver) := (Spec.boundary { run with timing := r } .timing).timing
    (timing (Receiver.quiet .aligning)).link = .aligning
      ∧ ((front one).rx.link = .live ∧ (front one).rx.codeErrors < 3 ∧ (front one).rx.frame ≠ .receiving)
      ∧ ((front two).rx.link = .live ∧ (front two).rx.codeErrors < 3 ∧ (front two).rx.frame = .receiving)
      ∧ ((timing one).link = .live ∧ (timing one).codeErrors < 3 ∧ (timing one).frame ≠ .receiving)
      ∧ ((timing two).link = .live ∧ (timing two).codeErrors < 3 ∧ (timing two).frame = .receiving)
      ∧ ({ run with uplink := one }.uplink.link = .live ∧ { run with uplink := one }.uplink.codeErrors < 3
          ∧ { run with uplink := one }.uplink.frame ≠ .receiving)
      ∧ ({ run with uplink := two }.uplink.codeErrors < 3 ∧ { run with uplink := two }.uplink.frame = .receiving) := by
  decide +kernel

/-- A part every lane of which has counted three code errors, with these frames waiting on link 0, this notice, and the emitter
sending this. -/
def failing (waiting : List (List Word)) (notice : NoticeState) (k : FrameKind) : State :=
  let r : Receiver := { Receiver.quiet .live with codeErrors := 3 }
  { withSlot { slot with state := .emitting } with
    front := run.front.set 0 { holding waiting with rx := r, notice := notice }, timing := r, uplink := r
    emitter := { Emitter.idle with frame := k } }

/-- Three code errors counted on each lane, in one state, with and without a waiting frame, with a notice already delivered, and with
each of the three frames the uplink may be sending. -/
theorem witness_FourthCodeErrorLosesLock :
    let meets (waiting : List (List Word)) (notice : NoticeState) (k : FrameKind) : Prop :=
      let s := failing waiting notice k
      let f := (Spec.boundary s (.front 0)).front.get 0
      let t := (Spec.boundary s .timing).timing
      (f.rx.link = .live ∧ f.rx.codeErrors = 3 ∧ f.rx.frame ≠ .receiving ∧ f.notice = notice ∧ f.waiting = waiting)
        ∧ (t.link = .live ∧ t.codeErrors = 3 ∧ t.frame ≠ .receiving)
        ∧ s.uplink.link = .live ∧ s.uplink.codeErrors = 3 ∧ s.uplink.frame ≠ .receiving ∧ s.emitter.frame = k
    meets [] .none .none ∧ meets [fragment] .none .reply ∧ meets [fragment] .delivered .event := by decide +kernel

/-- In one state, a timer that is due now on each kind of lane; and one in which every timer is stopped. -/
theorem witness_StalledFramesAreDiscarded :
    let s := { withFront (frontIn [5]) with timing := inFrame [5], uplink := inFrame [5] }
    ((s.front.get 0).rx.frame = .receiving ∧ (s.front.get 0).rx.stall = some s.timebase)
      ∧ (s.timing.frame = .receiving ∧ s.timing.stall = some s.timebase)
      ∧ (s.uplink.frame = .receiving ∧ s.uplink.stall = some s.timebase)
      ∧ (run.front.get 0).rx.stall ≠ some run.timebase ∧ run.timing.stall ≠ some run.timebase
      ∧ run.uplink.stall ≠ some run.timebase := by decide +kernel

/-! ### Witnesses: triggers and deadlines -/

/-- A trigger message of a tag and a class, and a state at whose timing link a frame stands before its END. -/
def message (tag cls : Word) : List Word := [tag, cls, 0, 0, 0, crcOf [tag, cls, 0, 0, 0]]

def timed (s : State) (words : List Word) : State := { s with timing := inFrame words }

/-- The receiver of `timed` holds the frame after the word boundary, whatever the state, if nothing is due. -/
theorem receiving_timed (s : State) (words : List Word) (h : s.timingDue = .none) :
    Spec.boundary (timed s words) .timing = timed s words ∧ Spec.receiving (timed s words) .timing :=
  ⟨if_pos h, rfl, rfl, rfl⟩

/-- OUTSIDE and DISCARDING; a frame of five words; one whose CRC fails; a trigger message outside RUNNING, of a DISABLED class, of
a tag that a slot carries, and at the admission level (each received by `receiving_timed`). -/
theorem witness_TriggersAreDiscardedIgnoredOrRefused :
    let k : ClassNo := Fin.ofNat 8 (1 : Word).toNat
    ((Spec.boundary run .timing).timing.link = .live ∧ (Spec.boundary run .timing).timing.frame = .outside)
      ∧ (timed run []).timingDue = .none
      ∧ (timed run [7, 1, 0, 0, 0]).timing.words.length ≠ 6 ∧ Spec.crcFails (timed run [7, 1, 0, 0, 0, 0]).timing.words
      ∧ (timed { run with runState := .ready } (message 7 1)).runState ≠ .running
      ∧ ((timed run (message 7 8)).runState = .running
          ∧ ((timed run (message 7 8)).classes.get (Fin.ofNat 8 (8 : Word).toNat)).kind = .disabled)
      ∧ (let s := timed (withSlot slot) (message 7 1)
         s.runState = .running ∧ (s.classes.get k).kind ≠ .disabled ∧ ¬ Spec.unmatched s 7)
      ∧ (let s := timed { withSlot slot with fill := 64 } (message 8 1)
         s.runState = .running ∧ (s.classes.get k).kind ≠ .disabled ∧ Spec.unmatched s 8
           ∧ (s.classes.get k).admission ≤ s.fill) := by decide +kernel

/-- The running part at fill 63, with its front links in a state and these parked copies of tag 7. -/
def admitting (link : LinkState) (orphans : List Orphan) : State :=
  timed { run with fill := 63, orphans := orphans, front := Bank.fill 24 { FrontLink.cold with rx := Receiver.quiet link } }
    (message 7 1)

/-- A trigger message of tag 7 and class 1 that is admitted. -/
abbrev Admits (s : State) : Prop :=
  Spec.boundary s .timing = s ∧ Spec.receiving s .timing ∧ s.timing.words = message 7 1 ∧ s.runState = .running
    ∧ (s.classes.get 1).kind ≠ .disabled ∧ Spec.unmatched s 7 ∧ s.fill < (s.classes.get 1).admission

/-- The slot the trigger message opens there (R7). -/
def opening (link : LinkState) : Slot :=
  { slot with
    contribs := Bank.build (fun n => if n.val < 2 then (if link = .live then some .awaited else some .absent) else none) }

/-- A trigger message that is admitted at fill 63: no parked copy, with the links LIVE and with every link down, which is all in;
and parked copies of the tag for an expected link, twice, and for a link outside the expected set. -/
theorem witness_TriggersAreAdmitted :
    let copies : List Orphan := [⟨0, 7, 0, [1], 9⟩, ⟨0, 7, 0, [2], 9⟩, ⟨5, 7, 0, [3], 9⟩]
    (Admits (admitting .live []) ∧ ¬ Spec.allIn (opening .live)) ∧ (Admits (admitting .dark []) ∧ Spec.allIn (opening .dark))
      ∧ Admits (admitting .live copies) ∧ (admitting .live copies).orphans.filter (fun o => decide (o.tag = 7)) = copies := by
  have one (l : LinkState) (o : List Orphan) :
      Spec.boundary (admitting l o) .timing = admitting l o ∧ Spec.receiving (admitting l o) .timing :=
    receiving_timed _ _ rfl
  have two (l : LinkState) (o : List Orphan) : Spec.unmatched (admitting l o) 7 := by
    have empty : ∀ i, (State.reset.slots.get i).state = .free := by decide
    exact fun i h => absurd (empty i) h
  have three (l : LinkState) (o : List Orphan) : ((admitting l o).classes.get 1).kind ≠ .disabled
      ∧ (admitting l o).fill < ((admitting l o).classes.get 1).admission :=
    ⟨(by decide : (run.classes.get 1).kind ≠ .disabled), (by decide : 63 < (run.classes.get 1).admission)⟩
  refine ⟨⟨⟨(one _ _).1, (one _ _).2, rfl, rfl, (three _ _).1, two _ _, (three _ _).2⟩, by decide +kernel⟩,
    ⟨⟨(one _ _).1, (one _ _).2, rfl, rfl, (three _ _).1, two _ _, (three _ _).2⟩, by decide +kernel⟩,
    ⟨(one _ _).1, (one _ _).2, rfl, rfl, (three _ _).1, two _ _, (three _ _).2⟩, rfl⟩

/-- The slot at get, at this deadline. -/
def due (x : Slot) (d : Deadline) : State := { withSlot x with deadlines := run.deadlines.set 0 d }

/-- An OPEN slot whose first deadline is due. -/
abbrev FirstDue (s : State) : Prop :=
  (s.slots.get 0).state = .opened ∧ (s.deadlines.get 0).stage = .first ∧ (s.deadlines.get 0).expiry = s.timebase

/-- A slot whose first deadline is due, with two stragglers, with none, with three at a limit of 2, and with T2 at 0; one whose second
deadline is due; an orphan entry that is due behind one that is not; and deadlines and an entry that are due a microsecond later. -/
theorem witness_ExpiriesExtendCloseOrDrop :
    let three : Slot := { slot with contribs := slot.contribs.set 2 (some .awaited) }
    let class1 : ClassEntry := run.classes.get 1
    let open_ (x : Slot) : State := due x ⟨.first, 0, 0⟩
    let none_ : Slot := { slot with contribs := Bank.fill 24 none }
    let zero : State := { open_ slot with classes := run.classes.set 1 { class1 with t2 := 0 } }
    (FirstDue (open_ slot) ∧ Spec.awaitedCount slot = 2 ∧ 2 ≤ class1.stragglers ∧ 0 < class1.t2)
      ∧ (FirstDue (open_ none_) ∧ Spec.awaitedCount none_ = 0)
      ∧ (FirstDue (open_ three) ∧ class1.stragglers < Spec.awaitedCount three)
      ∧ (FirstDue zero ∧ (Spec.classOfSlot zero 0).t2 = 0 ∧ Spec.awaitedCount (zero.slots.get 0) = 2)
      ∧ (let s := due { slot with state := .extended } ⟨.second, 0, 0⟩
         (s.slots.get 0).state = .extended ∧ (s.deadlines.get 0).stage = .second ∧ (s.deadlines.get 0).expiry = s.timebase)
      ∧ (let early : List Orphan := [⟨3, 9, 0, [2], 5⟩]
         let s : State := { run with orphans := early ++ [⟨4, 9, -200, [3], 5⟩] }
         (-200 : Time) + BitVec.ofNat 32 s.general.parkTime = s.timebase
           ∧ (∀ p ∈ early, p.parkTime + BitVec.ofNat 32 s.general.parkTime ≠ s.timebase)
           ∧ ∀ o ∈ ({ run with orphans := [⟨4, 9, -199, [3], 5⟩] } : State).orphans,
              o.parkTime + BitVec.ofNat 32 run.general.parkTime ≠ run.timebase)
      ∧ ((due slot ⟨.first, 0, 1⟩).deadlines.get 0).expiry ≠ (due slot ⟨.first, 0, 1⟩).timebase
      ∧ ((due slot ⟨.second, 0, 1⟩).deadlines.get 0).expiry ≠ (due slot ⟨.second, 0, 1⟩).timebase
      ∧ (run.slots.get 0).state ≠ .opened ∧ (run.slots.get 0).state ≠ .extended := by
  decide +kernel

/-! ### Witnesses: the arbiter and the lookup -/

/-- A part in which nothing requests, one with a job in progress, one in which link 0 requests, and one whose requesting link 1 alone is urgent. -/
theorem witness_ArbiterChoosesInRotation :
    run.chosen = none ∧ (∀ r, ¬ Spec.requests run r) ∧ (working slot fragment .park).job ≠ none ∧ (withFront (holding [fragment])).chosen = some 0
      ∧ (Spec.requests (withFront (holding [fragment])) 0 ∧ ¬ Spec.urgent (withFront (holding [fragment])) 0)
      ∧ Spec.urgent ((withFront (holding [fragment])).setFront 1 (holding [List.replicate 6144 0])) 1 := by
  refine ⟨by decide, by decide +kernel, by decide, by decide, by decide, 1, by decide, ?_⟩
  change 6144 ≤ (holding [List.replicate 6144 0]).occupancy
  simp [holding, FrontLink.occupancy, FrontLink.cold, Receiver.quiet, -List.reduceReplicate]

/-- The running part with one slot and a fragment that waits on link 0. -/
def meeting (x : Slot) : State := (withSlot x).setFront 0 (holding [fragment])

/-- A grant of the fragment meets that slot. -/
abbrev Meets (x : Slot) : Prop := Spec.grants (meeting x) 0 fragment [] ∧ Spec.matching (meeting x) 7 0

/-- A grant meets a slot that is AWAITED, one with the link outside its expected set, one that has it, one that has its extra, and
one that has closed. -/
theorem witness_GrantMeetsItsSlot :
    let outside : Slot := { slot with contribs := slot.contribs.set 0 none }
    let arrived : Slot := { slot with contribs := slot.contribs.set 0 (some .arrived) }
    let twice : Slot := { outside with extras := slot.extras.set 0 (some .recorded) }
    (Meets slot ∧ Spec.isOpen slot ∧ slot.contribs.get 0 = some .awaited)
      ∧ (Meets outside ∧ Spec.isOpen outside ∧ outside.contribs.get 0 = none ∧ outside.extras.get 0 = none)
      ∧ (Meets arrived ∧ Spec.isOpen arrived ∧ arrived.contribs.get 0 = some .arrived)
      ∧ (Meets twice ∧ Spec.isOpen twice ∧ twice.contribs.get 0 = none ∧ twice.extras.get 0 ≠ none)
      ∧ (Meets { slot with state := .closed } ∧ ¬ Spec.isOpen { slot with state := .closed }) := by
  dsimp only
  and_intros <;> decide +kernel

/-- A grant of the fragment that meets no slot. -/
abbrev Strays (s : State) : Prop := Spec.grants s 0 fragment [] ∧ Spec.unmatched s 7 ∧ s.general.lookAhead ≤ 255

/-- A fragment that no slot matches: outside RUNNING, at distance 0 and 32,768 of the newest tag, at the look-ahead, one
beyond it and at 32,767, with no newest tag, with a list of 16, with no free cell and with just enough. -/
theorem witness_UnmatchedFragmentsAreParkedOrDropped :
    let s := withFront (holding [fragment])
    let newest (t : Tag) : State := { s with newestTag := some t }
    let w := fragment.length - 1
    (Strays { s with runState := .draining } ∧ { s with runState := .draining }.runState ≠ .running)
      ∧ (Strays (newest 7) ∧ ((7 : Tag) - 7).toNat = 0) ∧ (Strays (newest 32775) ∧ 32768 ≤ ((7 : Tag) - 32775).toNat)
      ∧ (Strays (newest (7 - 64)) ∧ 1 ≤ ((7 : Tag) - (7 - 64)).toNat ∧ ((7 : Tag) - (7 - 64)).toNat ≤ s.general.lookAhead)
      ∧ (Strays (newest (7 - 65)) ∧ s.general.lookAhead < ((7 : Tag) - (7 - 65)).toNat)
      ∧ (Strays (newest (7 - 32767)) ∧ ((7 : Tag) - (7 - 32767)).toNat < 32768)
      ∧ (let full := { s with orphans := List.replicate 16 ⟨3, 9, 0, [], 0⟩ }
         Strays full ∧ full.runState = .running ∧ full.newestTag = none ∧ 16 ≤ full.orphans.length)
      ∧ (let none_ := { s with freeQueue := [] }
         Strays none_ ∧ none_.orphans.length < 16 ∧ none_.freeQueue.length < Spec.cellsOf w)
      ∧ (let one := { s with freeQueue := [0] }
         Strays one ∧ one.orphans.length < 16 ∧ Spec.cellsOf w ≤ one.freeQueue.length) := by
  dsimp only
  and_intros <;> decide +kernel

/-- A part whose adoption queue holds one entry for the slot at get. -/
def adopting (expected : Bool) (x : Slot) : State :=
  { withSlot x with adoption := [⟨0, 7, 0, expected, [3], 8⟩] }

/-- The entry at the head of the adoption queue is granted. -/
abbrev Adopts (b : Bool) (x : Slot) : Prop :=
  (adopting b x).job = none ∧ (adopting b x).chosen = some 24 ∧ (adopting b x).adoption = [⟨0, 7, 0, b, [3], 8⟩]
    ∧ (adopting b x).slots.get 0 = x

/-- An expected entry and an extra candidate at the head, for an OPEN slot with and without the extra, for one that has closed,
for one that is FREE and for one of another tag. -/
theorem witness_AdoptedCopiesMeetTheirSlot :
    let recorded : Slot := { slot with extras := slot.extras.set 0 (some .recorded) }
    let closing : Slot := { slot with state := .closing }
    (Adopts true slot ∧ slot.state ≠ .free ∧ slot.tag = 7)
      ∧ (Adopts false slot ∧ Spec.isOpen slot ∧ slot.extras.get 0 = none)
      ∧ (Adopts false recorded ∧ Spec.isOpen recorded ∧ recorded.tag = 7 ∧ recorded.extras.get 0 ≠ none)
      ∧ (Adopts false closing ∧ closing.state ≠ .free ∧ closing.tag = 7 ∧ ¬ Spec.isOpen closing)
      ∧ (Adopts true Slot.empty ∧ Slot.empty.state = .free) ∧ (Adopts true { slot with tag := 8 } ∧ { slot with tag := 8 }.tag ≠ 7) := by
  decide +kernel

/-- The last waiting frame of a DARK link with a PENDING notice. -/
theorem witness_LastGrantDeliversThePendingNotice :
    let s := (withSlot slot).setFront 0 { FrontLink.cold with waiting := [fragment], notice := .pending }
    s.job = none ∧ s.chosen = some 0 ∧ (s.front.get 0).waiting = [fragment] ∧ (s.front.get 0).notice = .pending
      ∧ (s.front.get 0).rx.link ≠ .live := by decide +kernel

/-! ### Witnesses: conditioning -/

/-- A part that conditions link 0's fragment for the slot at get, with these words left to read, and pad 0 with these parameters. -/
def reading (x : Slot) (ws : List Word) (pad : Pad) : State :=
  { working x ([0x100C, 7, 0] ++ ws ++ [0]) (.condition 0) with pads := if pad = Pad.cold then [] else [(0, pad)] }

/-- The job of `reading`. -/
def readingJob : Job := jobOf (.condition 0) .fifo

/-- The job of `reading` has a burst to read. -/
abbrev Reads (x : Slot) (ws : List Word) (pad : Pad) : Prop := Spec.bursting (reading x ws pad) readingJob 0 ws

/-- A job reads a malformed burst (two words, channel 128, no sample, one word short), an unmapped one (channel 50), one of a MASKED
pad, one in a slot of a DISABLED class, and one of an ACTIVE pad in a PHYSICS slot with every sample below the threshold; and no job, a
park job, a job that has stopped and one at the end of its source, with no burst to read. -/
theorem witness_BurstsThatWriteNothing :
    let good : List Word := [0, 5, 2, 100, 200]
    let below : Pad := { Pad.cold with threshold := 201 }
    (∀ ws ∈ ([[0, 5], [128, 5, 1, 100], [0, 5, 0], [0, 5, 2, 100]] : List (List Word)),
        Reads slotWorking ws Pad.cold ∧ Spec.malformed ws)
      ∧ (Reads slotWorking [50, 5, 2, 100, 200] Pad.cold ∧ ¬ Spec.malformed [50, 5, 2, 100, 200]
          ∧ ∀ k, ¬ Spec.covers ((reading slotWorking [50, 5, 2, 100, 200] Pad.cold).windows.get k) 0 50)
      ∧ (Reads slotWorking good { Pad.cold with mode := .masked } ∧ ¬ Spec.malformed good
          ∧ Spec.placed (reading slotWorking good { Pad.cold with mode := .masked }) 0 0 ⟨0, 0, 0⟩
          ∧ (Memory.read Pad.cold (reading slotWorking good { Pad.cold with mode := .masked }).pads 0).mode = .masked)
      ∧ (Reads { slotWorking with cls := 0 } good Pad.cold
          ∧ (Spec.classOfSlot (reading { slotWorking with cls := 0 } good Pad.cold) 0).kind = .disabled)
      ∧ (Reads slotWorking good below ∧ Spec.placed (reading slotWorking good below) 0 0 ⟨0, 0, 0⟩
          ∧ Memory.read Pad.cold (reading slotWorking good below).pads 0 = below ∧ below.mode = .active
          ∧ (Spec.classOfSlot (reading slotWorking good below) 0).kind = .physics
          ∧ ∀ raw ∈ Spec.burstRaws good, raw < 1023 ∧ correct below.pedestal below.gain raw < below.threshold)
      ∧ Spec.placed (reading slotWorking good Pad.cold) 0 49 ⟨0, 49, 49⟩
      ∧ (run.job = none ∧ (working slot fragment .park).job = some (jobOf .park .fifo) ∧ (jobOf .park .fifo).outcome = .park
          ∧ { readingJob with stopped := true }.stopped = true
          ∧ (reading slotWorking [] Pad.cold).job = some readingJob
          ∧ (Spec.sourceOf (reading slotWorking [] Pad.cold) readingJob).length ≤ readingJob.position) := by
  dsimp only
  and_intros <;> decide +kernel

/-- A burst of an ACTIVE pad in the PHYSICS slot, of the one pulse `p`. -/
abbrev Pulses (ws : List Word) (p : List Sample) : Prop :=
  let s := reading slotWorking ws Pad.cold
  let c := Spec.classOfSlot s 0
  Spec.bursting s readingJob 0 ws ∧ ¬ Spec.malformed ws ∧ Spec.placed s 0 (ws.getD 0 0).toNat ⟨0, 0, 0⟩
    ∧ Spec.treatment (Memory.read Pad.cold s.pads 0).mode c.kind = .suppressed
    ∧ Spec.pulses .suppressed c Pad.cold (Spec.treated s readingJob Pad.cold .suppressed ws) = [p]

/-- The cells of that pulse are there to take. -/
abbrev Writes (ws : List Word) (p : List Sample) : Prop :=
  let s := reading slotWorking ws Pad.cold
  let c := Spec.classOfSlot s 0
  let need := Spec.needed readingJob (Spec.pulseWords c ⟨0, 0, 0⟩ .suppressed p).length
  Spec.keptOf c p ≠ [] ∧ readingJob.cells.length + need ≤ c.cellLimit ∧ need ≤ s.freeQueue.length ∧ need = 1
    ∧ Spec.cellsOf readingJob.wordCount = readingJob.cells.length ∧ (readingJob.cells ++ s.freeQueue).Nodup
    ∧ Memory.wf 0 s.counters = true ∧ Memory.wf Pad.cold s.pads = true ∧ Memory.wf 0 s.store = true
    ∧ Memory.wf AccEntry.cold s.acc = true

/-- A burst whose one pulse lies inside the drift window, and one that starts at bin 1,023, so that clipping keeps its first sample
alone, each written whole; and one that lies outside it, whose pulse goes whole. -/
theorem witness_BurstsWriteTheirPulse :
    let whole : List Sample := [⟨5, 100, 100⟩, ⟨6, 200, 200⟩]
    let clipped : List Sample := [⟨1023, 100, 100⟩, ⟨1024, 1023, 1023⟩]
    let class1 : ClassEntry := run.classes.get 1
    (Pulses [0, 5, 2, 100, 200] whole ∧ Writes [0, 5, 2, 100, 200] whole)
      ∧ (Pulses [0, 1023, 2, 100, 1023] clipped ∧ Writes [0, 1023, 2, 100, 1023] clipped
          ∧ Spec.keptOf class1 clipped = [⟨1023, 100, 100⟩]
          ∧ Spec.pulseWords class1 ⟨0, 0, 0⟩ .suppressed clipped = [0, 0x43FF, 1, 100])
      ∧ Spec.keptOf { class1 with driftWindow := 1000 } clipped = [] := by
  dsimp only
  and_intros <;> decide +kernel

/-- A burst of a PEDESTAL slot, with the accumulator ACCUMULATING, for a job granted with and without an urgent link. -/
theorem witness_PedestalBurstsAreAccumulated :
    ∀ urgent : Bool,
      let j := { readingJob with urgent := urgent }
      let s := { reading { slotWorking with cls := 2 } [0, 5, 2, 100, 200] Pad.cold with
        accState := .accumulating, job := some j }
      Spec.bursting s j 0 [0, 5, 2, 100, 200] ∧ ¬ Spec.malformed [0, 5, 2, 100, 200]
        ∧ Spec.placed s 0 0 ⟨0, 0, 0⟩ ∧ (Spec.classOfSlot s 0).kind = .pedestal
        ∧ (Memory.read Pad.cold s.pads 0).mode ≠ .masked ∧ s.accState = .accumulating
        ∧ Memory.wf 0 s.counters = true ∧ Memory.wf Pad.cold s.pads = true ∧ Memory.wf 0 s.store = true
        ∧ Memory.wf AccEntry.cold s.acc = true := by decide +kernel

/-- Samples at the ends of the correction: 1,023, at the pedestal, and one quarter count above it. -/
theorem witness_CorrectionRoundsHalfUp : (100 < 1023 ∧ 4 * 100 ≤ 400) ∧ (100 < 1023 ∧ 399 < 4 * 100) := by decide

/-- A kept run of the minimum width in the worked samples: indices 2 and 3, at a threshold of 20. -/
theorem witness_SuppressionKeepsEveryRun :
    let above (k : Nat) : Prop := ∃ x, workedSamples[k]? = some x ∧ (20 ≤ x.value ∨ x.raw = 1023)
    2 ≤ 3 ∧ (∀ k, 2 ≤ k → k ≤ 3 → above k) ∧ ¬ above (2 - 1) ∧ ¬ above (3 + 1) ∧ workedClass.minWidth ≤ 3 - 2 + 1
      ∧ 3 < workedSamples.length := by
  refine ⟨by decide, fun k h1 h2 => ?_, ?_, ?_, by decide, by decide⟩
  · obtain rfl | rfl : k = 2 ∨ k = 3 := by omega
    · exact ⟨_, rfl, by decide⟩
    · exact ⟨_, rfl, by decide⟩
  · rintro ⟨x, h, hx⟩
    cases h
    exact absurd hx (by decide)
  · rintro ⟨x, h, hx⟩
    cases h
    exact absurd hx (by decide)

/-- A job that has stopped and one whose source is used up, from a frame and from a parked copy, with the slot's place for the link
CONDITIONING or an extra, without and with a record of the link; the slot waits for another link, becomes all in, or was CLOSING; and no job, a park job, and one with a
burst to read. -/
theorem witness_ConditioningJobsEnd :
    let ended (j : Job) (x : Slot) : State := { working x fragment (.condition 0) with job := some j }
    let stopped := { readingJob with stopped := true }
    let used := { readingJob with position := 8 }
    let copy := { jobOf (.condition 0) (.copy [3] 8) with position := 8 }
    let extra := { slot with contribs := slot.contribs.set 0 none, extras := slot.extras.set 0 (some .conditioning) }
    let again := { extra with records := slot.records.set 0 (some ⟨[3], 1, 5, FragFlags.clear⟩) }
    (∀ j ∈ [stopped, used, copy], ∀ x ∈ [slotWorking, extra, again],
        (ended j x).job = some j ∧ j.outcome = .condition 0
          ∧ (j.stopped = true ∨ (Spec.sourceOf (ended j x) j).length ≤ j.position))
      ∧ copy.source = .copy [3] 8
      ∧ ¬ Spec.allIn { slot with contribs := slot.contribs.set 0 (some .arrived) }
      ∧ Spec.allIn { slot with contribs := (slot.contribs.set 0 (some .arrived)).set 1 (some .missing) }
      ∧ ¬ Spec.waits { slot with state := .closing, contribs := slot.contribs.set 0 (some .arrived) }
      ∧ (run.job = none ∧ (working slot fragment .park).job = some (jobOf .park .fifo) ∧ (jobOf .park .fifo).outcome = .park
          ∧ (reading slotWorking [0, 5, 1, 100] Pad.cold).job = some readingJob ∧ readingJob.stopped = false
          ∧ readingJob.position < (Spec.sourceOf (reading slotWorking [0, 5, 1, 100] Pad.cold) readingJob).length) := by
  decide +kernel

/-- A park job whose tag no slot carries, in RUNNING and DRAINING, and whose tag a slot carries: closed, AWAITED, ARRIVED and
outside the expected set; and no job, and a conditioning job. -/
theorem witness_ParkJobsEnd :
    let j := jobOf .park .fifo
    let s (x : Slot) (r : RunState) : State := { working x fragment .park with runState := r, job := some { j with cells := [3] } }
    let meets (t : State) : Prop := t.job = some { j with cells := [3] } ∧ j.outcome = .park ∧ j.source = .fifo
    let at_ (c : Option Contribution) : Slot := { slot with contribs := slot.contribs.set 0 c }
    (meets (s Slot.empty .running) ∧ Spec.unmatched (s Slot.empty .running) 7)
      ∧ (meets (s Slot.empty .draining) ∧ Spec.unmatched (s Slot.empty .draining) 7)
      ∧ (∀ x ∈ [{ slot with state := .emitting }, at_ (some .awaited), at_ (some .arrived), at_ none],
          meets (s x .running) ∧ Spec.matching (s x .running) 7 0)
      ∧ ¬ Spec.isOpen { slot with state := .emitting } ∧ Spec.isOpen slot
      ∧ Memory.wf 0 (s slot .running).store = true ∧ ([3] : List Nat).Nodup
      ∧ (fragment.dropLast).length ≤ 64 * ([3] : List Nat).length
      ∧ run.job = none ∧ (working slotWorking fragment (.condition 0)).job = some readingJob
      ∧ readingJob.outcome = .condition 0 := by decide +kernel

/-! ### Witnesses: emission -/

/-- A CLOSED slot at get with one record, at a frame boundary. -/
def closedSlot : Slot :=
  { slot with
    state := .closed, contribs := (slot.contribs.set 0 (some .arrived)).set 1 (some .missing), cause := .firstDeadline
    status := .partly, records := slot.records.set 0 (some ⟨[3], 1, 5, FragFlags.clear⟩) }

/-- The emitter in the middle of an event frame, at a position. -/
def emitting (p : Position) : State :=
  { withSlot { closedSlot with state := .emitting } with emitter := { Emitter.idle with frame := .event, position := p } }

/-- The conditions of a start, and a state that fails them; and an event frame whose every word has been sent, for each status; and no event frame, one that is held and one before its CRC word. -/
theorem witness_EventFramesStartAndEnd :
    let s := withSlot closedSlot
    let sent (status : Status) : State :=
      { emitting .endNext with
        slots := run.slots.set 0 { closedSlot with state := .emitting, status := status, records := Bank.fill 24 none } }
    (s.emitter.frame = .none ∧ s.uplink.link = .live ∧ s.replies = [] ∧ (s.slots.get s.get).state = .closed ∧ s.farmFlow = .go)
      ∧ { s with farmFlow := .hold }.farmFlow ≠ .go
      ∧ ∀ status ∈ [Status.complete, .partly, .flushed],
          (sent status).emitter.frame = .event ∧ (sent status).emitter.held = false
            ∧ (sent status).emitter.position = .endNext ∧ ((sent status).slots.get (sent status).get).status = status
            ∧ (∀ n, ((sent status).slots.get (sent status).get).records.get n = none)
            ∧ run.emitter.frame ≠ .event ∧ (emitting .crcNext).emitter.position ≠ .endNext
            ∧ { (emitting .endNext).emitter with held := true }.held = true := by decide +kernel

/-- A header word; a section's header word; the last word of its record; a word that fills a cell; and a frame with no word left. -/
theorem witness_EventWordsReturnTheirCells :
    ((emitting (.trailer 0)).eventWord closedSlot (.trailer 0)).isSome
      ∧ ((emitting (.sect 0 3)).eventWord closedSlot (.sect 0 3)).isSome
      ∧ ((emitting (.sect 0 8)).eventWord closedSlot (.sect 0 8)).isSome
      ∧ (4 ≤ 8 ∧ 8 - 3 = 5) ∧ (4 ≤ 67 ∧ (67 - 4) % 64 = 63) ∧ ¬ (4 ≤ 66 ∧ ((66 - 4) % 64 = 63 ∨ 66 - 3 = 65))
      ∧ (emitting .endNext).emitter.position = .endNext := by
  decide +kernel

/-- A frame of one section of five words. -/
theorem witness_EventFrameIsSentWhole :
    let s := withSlot closedSlot
    s.emitter.frame = .none ∧ s.uplink.link = .live ∧ s.replies = [] ∧ closedSlot.state = .closed ∧ s.farmFlow = .go
      ∧ (∀ n, closedSlot.records.get n ≠ none ↔ Spec.hasSection closedSlot n)
      ∧ (∀ n r, closedSlot.records.get n = some r → chainFits r.cells r.wordCount) := by
  refine ⟨rfl, rfl, rfl, rfl, rfl, by decide +kernel, ?_⟩
  have one : ∀ n, closedSlot.records.get n = none ∨ closedSlot.records.get n = some ⟨[3], 1, 5, FragFlags.clear⟩ := by
    decide +kernel
  intro n r h
  rcases one n with e | e
  · rw [e] at h; cases h
  · rw [e] at h; cases h; rfl

theorem witness_RepliesAreSentInOrder :
    let s := { run with replies := [⟨7, .done, 0, 0, 0, []⟩] }
    s.replies = ⟨7, .done, 0, 0, 0, []⟩ :: [] ∧ s.emitter.frame = .none ∧ s.uplink.link = .live
      ∧ { s with emitter := { Emitter.idle with frame := .reply } }.emitter.frame = .reply
      ∧ run.replies = [] ∧ s.emitter.frame ≠ .reply := by decide

/-! ### Witnesses: requests -/

/-- Run control may take any request that stands at the head of `asking`. -/
theorem takes_asking (s : State) (content : List Word) : Spec.takes (asking s content) content [] :=
  ⟨rfl, rfl, Nat.succ_pos 3⟩

/-- The first part's three causes, and the check rows at the ends of their ranges, each for a request that may be taken. -/
theorem witness_RequestsAreCheckedInOrder :
    run.requests = [] ∧ { run with executing := true }.executing = true
      ∧ 4 ≤ (List.replicate 4 (⟨7, .done, 0, 0, 0, []⟩ : Reply)).length
      ∧ (∀ content, Spec.takes (asked content) content [])
      ∧ ((0x0405 : Word).toNat / 256 ≠ 1 ∧ (0x0405 : Word).toNat / 256 ≠ 2 ∧ (0x0405 : Word).toNat / 256 ≠ 3)
      ∧ (0x0105 : Word).toNat / 256 = 1 ∧ (0x0205 : Word).toNat / 256 = 2 ∧ (0x0305 : Word).toNat / 256 = 3
      ∧ 9 < (10 : Word).toNat ∧ ((0 : Word).toNat = 0 ∨ 16 < (17 : Word).toNat)
      ∧ Spec.spaceEntries 5 < (3072 : Word).toNat + (1 : Word).toNat
      ∧ Spec.spaceEntries 1 < (24 : Word).toNat + (1 : Word).toNat
      ∧ Spec.verbCommand 13 = none ∧ Spec.verbCommand 12 = some .pedestalAdopt ∧ 23 < (24 : Word).toNat := by
  refine ⟨rfl, rfl, by decide, takes_asking run, ?_⟩
  decide

/-- The last entry of COUNTERS, and sixteen entries of PADS up to its end. -/
theorem witness_ReadsReturnEntriesAsTheyStand :
    (∀ content, Spec.takes (asked content) content [])
      ∧ (Space.ofWord 7 = some .counters ∧ 1 ≤ (1 : Word).toNat ∧ (1 : Word).toNat ≤ 16
        ∧ (574 : Word).toNat + (1 : Word).toNat ≤ Spec.spaceEntries 7)
      ∧ Space.ofWord 5 = some .pads ∧ (3056 : Word).toNat + (16 : Word).toNat ≤ Spec.spaceEntries 5 :=
  ⟨takes_asking run, by decide⟩

/-- One entry of LINKS, CLASSES and PADS at the end of its space, in RUNNING and in SETUP. -/
theorem witness_TablesAreWrittenClamped (content : List Word) :
    (Spec.takes (asked content) content [] ∧ ¬ Spec.tablesOpen (asked content) ∧ MemoriesCanonical (asked content))
      ∧ (Spec.takes (asking State.reset content) content [] ∧ Spec.tablesOpen (asking State.reset content)
        ∧ MemoriesCanonical (asking State.reset content))
      ∧ (23 : Word).toNat + (1 : Word).toNat ≤ Spec.spaceEntries 1 ∧ ([64] : List Word).length = (1 : Word).toNat
      ∧ (7 : Word).toNat + (1 : Word).toNat ≤ Spec.spaceEntries 2
      ∧ (List.replicate 13 (0 : Word)).length = (1 : Word).toNat * 13
      ∧ (3071 : Word).toNat + (1 : Word).toNat ≤ Spec.spaceEntries 5
      ∧ (List.replicate 4 (0 : Word)).length = (1 : Word).toNat * 4 :=
  ⟨⟨takes_asking _ _, (by decide : ¬ Spec.tablesOpen run), ⟨rfl, rfl, rfl, rfl⟩⟩,
    ⟨takes_asking _ _, .inl rfl, ⟨rfl, rfl, rfl, rfl⟩⟩, by decide⟩

/-- GENERAL with a changed and an unchanged segment id under the lock, outside and in READY; a window and a row at the end of
their spaces, in RUNNING and in SETUP. -/
theorem witness_LockedSpacesAreWrittenInSetup (content : List Word) :
    (Spec.takes (asked content) content [] ∧ (asked content).locked = true ∧ (asked content).runState ≠ .setup
        ∧ ¬ Spec.tablesOpen (asked content))
      ∧ (Spec.takes (asking State.reset content) content [] ∧ (asking State.reset content).runState = .setup
        ∧ (asking State.reset content).locked = false ∧ Spec.tablesOpen (asking State.reset content))
      ∧ (Spec.clamped 0 63 13 ≠ run.general.segment ∧ Spec.clamped 0 63 12 = run.general.segment)
      ∧ (0 : Word).toNat + (1 : Word).toNat ≤ 1 ∧ (List.replicate 8 (0 : Word)).length = 8
      ∧ (63 : Word).toNat + (1 : Word).toNat ≤ 64 ∧ (List.replicate 6 (0 : Word)).length = (1 : Word).toNat * 6
      ∧ (47 : Word).toNat + (1 : Word).toNat ≤ 48 :=
  ⟨⟨takes_asking _ _, rfl, (by decide : run.runState ≠ .setup), (by decide : ¬ Spec.tablesOpen run)⟩,
    ⟨takes_asking _ _, rfl, rfl, .inl rfl⟩, by decide⟩

/-- Setup done in SETUP, where the classes make it fail, and in RUNNING. -/
theorem witness_setupDone (content : List Word) :
    (Spec.takes (asked content) content [] ∧ (asked content).runState ≠ .setup)
      ∧ Spec.takes (asking State.reset content) content [] ∧ (asking State.reset content).runState = .setup
        ∧ ¬ Spec.setupPasses (asking State.reset content) := by
  refine ⟨⟨takes_asking _ _, (by decide : run.runState ≠ .setup)⟩, takes_asking _ _, rfl, ?_⟩
  rintro ⟨_, _, _, ⟨k, h⟩, _⟩
  exact h ((by decide : ∀ k, (State.reset.classes.get k).kind = .disabled) k)

/-- Stop and drain completion: a drain that is complete and one that is not, in RUNNING and in DRAINING. -/
theorem witness_RunStateMoves (content : List Word) :
    let drained (t : State) : Prop := t.fill = 0 ∧ t.job = none ∧ t.adoption = [] ∧ t.emitter.frame = .none
    (Spec.takes (asked content) content [] ∧ (asked content).runState = .running ∧ drained (asked content))
      ∧ (Spec.takes (asking (withSlot slot) content) content [] ∧ (asking (withSlot slot) content).runState = .running
        ∧ ¬ drained (asking (withSlot slot) content))
      ∧ ({ run with runState := .draining }.runState = .draining ∧ drained { run with runState := .draining })
      ∧ run.runState ≠ .draining :=
  ⟨⟨takes_asking _ _, rfl, rfl, rfl, rfl, rfl⟩,
    ⟨takes_asking _ _, rfl, fun h => absurd h.1 (by decide : (withSlot slot).fill ≠ 0)⟩,
    ⟨rfl, rfl, rfl, rfl, rfl⟩, by decide⟩

/-- A request that waits changes nothing that Setup done checks. -/
theorem setupPasses_asking (s : State) (content : List Word) :
    Spec.setupPasses (asking s content) ↔ Spec.setupPasses s := Iff.rfl

/-- A READY part with an empty table and every cell free, its settings in range. -/
theorem witness_startGivesGo (content : List Word) :
    let s := asking { State.reset with runState := .ready } content
    Spec.takes s content [] ∧ s.runState = .ready ∧ s.fill = 0 ∧ s.freeQueue.length = 8192 ∧ GeneralInRange s.general := by
  refine ⟨takes_asking _ _, rfl, rfl, ?_, (by unfold GeneralInRange; decide : GeneralInRange General.cold)⟩
  simp only [asking, State.reset, allCells, List.length_range, Config.cellCount]

/-- A setup that passes: no window is valid, and class 0 is PHYSICS with link 0 expected. -/
theorem witness_setupPasses (content : List Word) :
    let s := asking
      { State.reset with classes := State.reset.classes.set 0 { ClassEntry.cold with kind := .physics, expected := 1 } }
      content
    Spec.takes s content [] ∧ s.runState = .setup ∧ Spec.setupPasses s := by
  refine ⟨takes_asking _ _, rfl, (setupPasses_asking _ _).mpr ?_⟩
  refine ⟨by decide, by unfold Spec.windowWithin; decide, ?_, ⟨0, by decide⟩, by decide⟩
  intro i _ _ _ _ _ _ _ h
  exact absurd h.1.1.1 ((by decide : ∀ i, (State.reset.windows.get i).valid ≠ true) i)

/-- READY and RUNNING, with an OPEN slot in the table. -/
theorem witness_FlushClosesEveryOpenSlot (content : List Word) :
    (Spec.takes (asking { run with runState := .ready } content) content []
        ∧ Spec.tablesOpen (asking { run with runState := .ready } content))
      ∧ Spec.takes (asking (withSlot slot) content) content [] ∧ ¬ Spec.tablesOpen (asking (withSlot slot) content)
      ∧ MemoriesCanonical (asking (withSlot slot) content) ∧ CountersBounded (asking (withSlot slot) content)
      ∧ Spec.isOpen slot :=
  ⟨⟨takes_asking _ _, .inr rfl⟩, takes_asking _ _, (by decide : ¬ Spec.tablesOpen (withSlot slot)),
    ⟨rfl, rfl, rfl, rfl⟩, fun _ => Nat.zero_le _, by decide⟩

/-- An event frame in progress and none, under the lock and without it. -/
theorem witness_WarmResetEmptiesTheTable (content : List Word) :
    (Spec.takes (asking (emitting .endNext) content) content []
        ∧ (asking (emitting .endNext) content).emitter.frame = .event)
      ∧ (Spec.takes (asked content) content [] ∧ (asked content).emitter.frame ≠ .event
        ∧ (asked content).locked = true ∧ MemoriesCanonical (asked content))
      ∧ Spec.takes (asking State.reset content) content [] ∧ (asking State.reset content).locked = false :=
  ⟨⟨takes_asking _ _, rfl⟩,
    ⟨takes_asking _ _, (by decide : run.emitter.frame ≠ .event), rfl, ⟨rfl, rfl, rfl, rfl⟩⟩, takes_asking _ _, rfl⟩

/-- The last link, LIVE with its notice undelivered and delivered, and BARRED. -/
theorem witness_BarAndUnbarLinks (content : List Word) :
    let delivered := run.setFront 23 { run.front.get 23 with notice := .delivered }
    let barred := run.setFront 23 { FrontLink.cold with rx := Receiver.quiet .barred }
    (23 : Word).toNat = (23 : LinkNo).val
      ∧ (Spec.takes (asked content) content [] ∧ ((asked content).front.get 23).rx.link ≠ .barred
        ∧ ((asked content).front.get 23).notice ≠ .delivered)
      ∧ (Spec.takes (asking delivered content) content [] ∧ ((asking delivered content).front.get 23).rx.link ≠ .barred
        ∧ ((asking delivered content).front.get 23).notice = .delivered)
      ∧ Spec.takes (asking barred content) content [] ∧ ((asking barred content).front.get 23).rx.link = .barred := by
  have live : (run.front.get 23).rx.link ≠ .barred ∧ (run.front.get 23).notice ≠ .delivered := by decide
  have done : ((run.setFront 23 { run.front.get 23 with notice := .delivered }).front.get 23).rx.link ≠ .barred := by decide
  exact ⟨rfl, ⟨takes_asking _ _, live⟩, ⟨takes_asking _ _, done, rfl⟩, takes_asking _ _, rfl⟩

/-- Each command in a run state and an accumulator state that takes it, and in one that does not. -/
theorem witness_ClearAndPedestalCommands (content : List Word) :
    let started := asking { run with accState := .accumulating } content
    let held := asking { run with accState := .held, runState := .ready } content
    (Spec.takes (asked content) content [] ∧ ¬ Spec.tablesOpen (asked content) ∧ (asked content).runState = .running
        ∧ (asked content).accState ≠ .accumulating ∧ (asked content).accState ≠ .held)
      ∧ (Spec.takes (asking State.reset content) content [] ∧ (asking State.reset content).runState = .setup)
      ∧ (Spec.takes started content [] ∧ started.accState = .accumulating)
      ∧ Spec.takes held content [] ∧ Spec.tablesOpen held ∧ held.accState = .held ∧ MemoriesCanonical held :=
  ⟨⟨takes_asking _ _, (by decide : ¬ Spec.tablesOpen run), rfl, (by decide : run.accState ≠ .accumulating),
      (by decide : run.accState ≠ .held)⟩,
    ⟨takes_asking _ _, rfl⟩, ⟨takes_asking _ _, rfl⟩, takes_asking _ _, .inr rfl, rfl, ⟨rfl, rfl, rfl, rfl⟩⟩

/-- Settings at the ends of their ranges. -/
theorem witness_CodesAndEntriesReadBack :
    Code.idle ≠ .error ∧ GeneralInRange ⟨63, 255, 4095, 64, 63, 8192, 8192, 1023⟩
      ∧ ClassInRange { ClassEntry.cold with t1 := 16383, t2 := 0, cellLimit := 256 }
      ∧ WindowInRange { MapWindow.cold with firstChannel := 127, count := 128, firstPad := 191 }
      ∧ PadInRange ⟨4095, 511, 1023, .masked⟩ ∧ (-64 ≤ (-64 : Int) ∧ (63 : Int) ≤ 63) := by
  unfold GeneralInRange ClassInRange WindowInRange PadInRange; decide

end Sys2Proof.Tests
end

section
/-! THEOREMS. The ring of the event table on its own (R1, R2, R25): what the ring law reads of a state, the few moves it
makes, and that each of them keeps the law. -/

namespace Sys2Proof.Machine

open Sys2Proof.Safety

/-- What the ring law tells apart in a slot: FREE, EMITTING, or any state between the two. -/
inductive Seat where
  | free
  | filled
  | emitting

/-- The seat a slot state takes in the ring. -/
def SlotState.seat : SlotState → Seat
  | .free => .free
  | .opened | .extended | .closing | .closed => .filled
  | .emitting => .emitting

/-- What the ring law reads of a state: the indices, the fill count, the seats, whether an event frame is in progress, and the
admission levels of the classes. -/
structure SlotRing where
  get : SlotNo
  put : SlotNo
  fill : Nat
  seat : SlotNo → Seat
  sending : Bool
  level : ClassNo → Nat

/-- The ring of a state. -/
def State.ring (s : State) : SlotRing :=
  { get := s.get, put := s.put, fill := s.fill, seat := fun i => (s.slots.get i).state.seat
    sending := s.emitter.frame == .event, level := fun c => (s.classes.get c).admission }

/-- The ring law (R1, R25, R64), as `RingSound` has it. -/
structure SlotRing.Sound (r : SlotRing) : Prop where
  fill_le : r.fill ≤ 64
  run : ∀ k : Fin 64, r.seat (r.get + k) ≠ .free ↔ k.val < r.fill
  put_eq : r.put = r.get + Fin.ofNat 64 r.fill
  sending_iff : r.sending = true ↔ r.seat r.get = .emitting
  alone : ∀ i, r.seat i = .emitting → i = r.get
  level_le : ∀ c, r.level c ≤ 64

theorem SlotState.seat_free (x : SlotState) : x.seat = .free ↔ x = .free := by cases x <;> simp [SlotState.seat]

theorem SlotState.seat_emitting (x : SlotState) : x.seat = .emitting ↔ x = .emitting := by
  cases x <;> simp [SlotState.seat]

/-- The ring law of a state is the ring law of its ring. -/
theorem State.ringSound_iff (s : State) : RingSound s ↔ s.ring.Sound := by
  have sending : s.ring.sending = true ↔ s.emitter.frame = .event := beq_iff_eq
  have free (i : SlotNo) : s.ring.seat i ≠ .free ↔ (s.slots.get i).state ≠ .free := not_congr (SlotState.seat_free _)
  have emitting (i : SlotNo) : s.ring.seat i = .emitting ↔ (s.slots.get i).state = .emitting := SlotState.seat_emitting _
  constructor
  · rintro ⟨fill, run, put, frame, alone, level⟩
    exact ⟨fill, fun k => (free _).trans (run k), put, sending.trans (frame.trans (emitting _).symm),
      fun i h => alone i ((emitting i).1 h), level⟩
  · rintro ⟨fill, run, put, frame, alone, level⟩
    exact ⟨fill, fun k => (free _).symm.trans (run k), put, sending.symm.trans (frame.trans (emitting _)),
      fun i h => alone i ((emitting i).2 h), level⟩

/-! ### The moves of a ring -/

/-- An admission: the seat at put is filled, and put and fill advance (R66). -/
def SlotRing.enter (r : SlotRing) : SlotRing :=
  { r with seat := Function.update r.seat r.put .filled, put := r.put + 1, fill := r.fill + 1 }

/-- The event frame of the slot at get starts (R25, R160). -/
def SlotRing.send (r : SlotRing) : SlotRing := { r with seat := Function.update r.seat r.get .emitting, sending := true }

/-- The slot at get becomes FREE at the end of its frame, get advances and fill falls (R2, R25). -/
def SlotRing.release (r : SlotRing) : SlotRing :=
  { r with seat := Function.update r.seat r.get .free, get := r.get + 1, fill := r.fill - 1, sending := false }

/-- The empty ring that a reset leaves (R28). -/
def SlotRing.empty (level : ClassNo → Nat) : SlotRing :=
  { get := 0, put := 0, fill := 0, seat := fun _ => .free, sending := false, level := level }

theorem SlotRing.empty_sound {level : ClassNo → Nat} (h : ∀ c, level c ≤ 64) : (SlotRing.empty level).Sound :=
  ⟨by simp [empty], by simp [empty], rfl, by simp [empty], by simp [empty], h⟩

/-- The place `fill` after get is the one at put: no seat before it, or after it, is. -/
theorem SlotRing.place_eq_put {r : SlotRing} (h : r.Sound) (room : r.fill < 64) (k : Fin 64) :
    r.get + k = r.put ↔ k.val = r.fill := by
  rw [h.put_eq, add_right_inj, Fin.ext_iff, Fin.val_ofNat, Nat.mod_eq_of_lt room]

/-- The seat at put is free while the ring is not full. -/
theorem SlotRing.put_free {r : SlotRing} (h : r.Sound) (room : r.fill < 64) : r.seat r.put = .free := by
  by_contra taken
  have inside := (h.run (Fin.ofNat 64 r.fill)).1 (h.put_eq ▸ taken)
  rw [Fin.val_ofNat, Nat.mod_eq_of_lt room] at inside
  exact lt_irrefl _ inside

/-- The slot at get is FREE exactly when the ring is empty. -/
theorem SlotRing.get_filled_iff {r : SlotRing} (h : r.Sound) : r.seat r.get ≠ .free ↔ 0 < r.fill := by
  simpa using h.run 0

theorem SlotRing.enter_sound {r : SlotRing} (h : r.Sound) (room : r.fill < 64) : r.enter.Sound := by
  have emitting (i : SlotNo) : r.enter.seat i = .emitting ↔ r.seat i = .emitting := by
    simp only [enter, Function.update_apply]
    split
    · next e => simp [e, SlotRing.put_free h room]
    · rfl
  constructor
  case fill_le => exact room
  case run =>
    intro k
    simp only [enter, Function.update_apply, SlotRing.place_eq_put h room]
    split
    · next e => simp [e]
    · next e => rw [h.run k]; omega
  case put_eq => simp [enter, h.put_eq, add_assoc, Fin.ext_iff, Fin.val_add]
  case sending_iff => exact h.sending_iff.trans (emitting _).symm
  case alone => exact fun i e => h.alone i ((emitting i).1 e)
  case level_le => exact h.level_le

theorem SlotRing.send_sound {r : SlotRing} (h : r.Sound) (filled : r.seat r.get ≠ .free) : r.send.Sound := by
  constructor
  case fill_le => exact h.fill_le
  case run =>
    intro k
    refine Iff.trans ?_ (h.run k)
    simp only [send, Function.update_apply]
    split
    · next e => simp [e, filled]
    · rfl
  case put_eq => exact h.put_eq
  case sending_iff => simp [send]
  case alone =>
    intro i
    simp only [send, Function.update_apply]
    split
    · next e => exact fun _ => e
    · exact h.alone i
  case level_le => exact h.level_le

/-- The slot at get lies 64 places after itself, and every other place after the next get is one before it was. -/
theorem SlotRing.release_sound {r : SlotRing} (h : r.Sound) (sending : r.sending = true) : r.release.Sound := by
  have emitting : r.seat r.get = .emitting := h.sending_iff.1 sending
  have positive : 0 < r.fill := (SlotRing.get_filled_iff h).1 (by simp [emitting])
  have gone (i : SlotNo) : r.release.seat i ≠ .emitting := by
    simp only [release, Function.update_apply]
    split
    · simp
    · next e => exact fun other => e (h.alone i other)
  constructor
  case fill_le => exact (Nat.sub_le _ _).trans h.fill_le
  case run =>
    intro k
    have full := h.fill_le
    have last : r.get + 1 + k = r.get ↔ k.val = 63 := by
      rw [add_assoc, add_eq_left, Fin.ext_iff, Fin.val_add]
      have := k.isLt
      simp; omega
    simp only [release, Function.update_apply, last]
    split
    · next e => simp; omega
    · next e =>
      have next : (1 + k).val = k.val + 1 := by rw [Fin.val_add]; simp; omega
      rw [add_assoc, h.run, next]
      omega
  case put_eq =>
    have := h.fill_le
    simp only [release, h.put_eq, add_assoc, add_right_inj, Fin.ext_iff, Fin.val_add, Fin.val_ofNat]
    simp; omega
  case sending_iff => exact ⟨by simp [release], fun e => absurd e (gone _)⟩
  case alone => exact fun i e => absurd e (gone i)
  case level_le => exact h.level_le

end Sys2Proof.Machine
end

section
/-! THEOREMS. The operations of the part that leave the ring as it is, which are all but those of the next section. -/

namespace Sys2Proof.Machine

variable (s : State)

/-! ### Updates that the ring does not read -/

/-- A slot replaced by one that takes the same seat. -/
theorem State.setSlot_ring {i : SlotNo} {x : Slot} (h : x.state.seat = (s.slots.get i).state.seat) :
    (s.setSlot i x).ring = s.ring := by
  have seats : (s.setSlot i x).ring.seat = s.ring.seat := by
    funext k
    simp only [ring, setSlot_slots, Bank.get_set]
    split
    · next e => rw [e, h]
    · rfl
  exact congrArg (fun seat => { s.ring with seat := seat }) seats

/-- An emitter replaced by one that sends an event frame exactly when the old one did. -/
theorem State.setEmitter_ring {e : Emitter} (h : (e.frame == .event) = (s.emitter.frame == .event)) :
    { s with emitter := e }.ring = s.ring :=
  congrArg (fun sending => { s.ring with sending := sending }) h

/-- Operations that keep the ring keep it when they are carried out one after another. -/
theorem State.foldl_ring {α : Type} {f : State → α → State} (h : ∀ t a, (f t a).ring = t.ring) (l : List α) :
    (l.foldl f s).ring = s.ring := by
  induction l generalizing s with
  | nil => rfl
  | cons a rest ih => exact (ih (f s a)).trans (h s a)

@[simp] theorem State.bumpOption_ring (c : Option Counter) : (s.bumpOption c).ring = s.ring := by cases c <;> rfl

@[simp] theorem State.bump_ring (c : Counter) : (s.bump c).ring = s.ring := rfl
@[simp] theorem State.bumpBy_ring (c : Counter) (k : Nat) : (s.bumpBy c k).ring = s.ring := rfl
@[simp] theorem State.addError_ring (e : ErrorCause) : (s.addError e).ring = s.ring := rfl
@[simp] theorem State.emit_ring (l : Lane) (c : LaneCode) : (s.emit l c).ring = s.ring := rfl
@[simp] theorem State.setFront_ring (n : LinkNo) (f : FrontLink) : (s.setFront n f).ring = s.ring := rfl

@[simp] theorem State.setRx_ring (l : Lane) (r : Receiver) : (s.setRx l r).ring = s.ring := by cases l <;> rfl

@[simp] theorem State.evalTiming_ring : s.evalTiming.ring = s.ring := by rw [evalTiming_frame]; rfl

@[simp] theorem State.evalFront_ring (n : LinkNo) : (s.evalFront n).ring = s.ring := by rw [evalFront_frame]; rfl

@[simp] theorem State.dropHeld_ring (n : LinkNo) : (s.dropHeld n).ring = s.ring := by rw [dropHeld_frame]; rfl

@[simp] theorem State.wordBoundary_ring (l : Lane) : (s.wordBoundary l).ring = s.ring := by
  rw [wordBoundary_frame]; rfl

@[simp] theorem State.takeCells_ring (k : Nat) : (s.takeCells k).ring = s.ring := by rw [takeCells_frame]; rfl

@[simp] theorem State.returnCells_ring (cells : List Nat) : (s.returnCells cells).ring = s.ring := by
  rw [returnCells_frame]; rfl

@[simp] theorem State.leaveFrame_ring (l : Lane) (next : FrameState) : (s.leaveFrame l next).ring = s.ring := by
  rw [leaveFrame_frame]; rfl

@[simp] theorem State.dropOrphans_ring (p : Orphan → Bool) : (s.dropOrphans p).ring = s.ring := by
  rw [dropOrphans_frame]; rfl

/-! ### Closure, loss notices and expiries -/

/-- An OPEN or EXTENDED slot is neither FREE nor EMITTING. -/
theorem Slot.seat_of_isOpen {x : Slot} (h : x.isOpen = true) : x.state.seat = .filled := by
  rcases x.isOpen_iff.1 h with e | e <;> rw [e] <;> rfl

/-- Nor is a slot that has just closed. -/
theorem Slot.close_seat (x : Slot) (c : Cause) : (x.close c).state.seat = .filled := by
  rw [Slot.close_state]; split <;> rfl

/-- Only an OPEN or EXTENDED slot is closed, and so the ring stays. -/
theorem State.closeSlot_ring {i : SlotNo} (c : Cause) (h : (s.slots.get i).isOpen = true) :
    (s.closeSlot i c).ring = s.ring :=
  (bumpOption_ring _ _).trans (s.setSlot_ring ((Slot.close_seat _ c).trans (Slot.seat_of_isOpen h).symm))

@[simp] theorem State.allInCheck_ring (i : SlotNo) : (s.allInCheck i).ring = s.ring := by
  rw [allInCheck]
  split
  · next h => exact s.closeSlot_ring _ h.1
  · rfl

@[simp] theorem State.attachCheck_ring (i : SlotNo) : (s.attachCheck i).ring = s.ring := by
  rw [attachCheck]
  split
  · next closing =>
    split
    · rfl
    · exact s.setSlot_ring (by rw [closing]; rfl)
  · exact allInCheck_ring s i

@[simp] theorem State.noticeAtSlot_ring (n : LinkNo) (i : SlotNo) : (s.noticeAtSlot n i).ring = s.ring := by
  rw [noticeAtSlot]
  split
  · exact (allInCheck_ring _ i).trans (s.setSlot_ring rfl)
  · rfl

@[simp] theorem State.lossNotice_ring (n : LinkNo) : (s.lossNotice n).ring = s.ring :=
  s.foldl_ring (fun t i => t.noticeAtSlot_ring n i) _

@[simp] theorem State.flushSlot_ring (i : SlotNo) : (s.flushSlot i).ring = s.ring := by
  rw [flushSlot]
  split
  · next h => exact s.closeSlot_ring _ h
  · rfl

/-- An OPEN slot becomes EXTENDED (R33). -/
theorem State.extendSlot_ring {i : SlotNo} (h : (s.slots.get i).state = .opened) : (s.extendSlot i).ring = s.ring :=
  s.setSlot_ring (by rw [h]; rfl)

@[simp] theorem State.firstExpiry_ring (i : SlotNo) : (s.firstExpiry i).ring = s.ring := by
  rw [firstExpiry]
  split
  · next h =>
    split
    · exact s.extendSlot_ring h.1
    · exact s.closeSlot_ring _ ((Slot.isOpen_iff _).2 (.inl h.1))
  · rfl

@[simp] theorem State.secondExpiry_ring (i : SlotNo) : (s.secondExpiry i).ring = s.ring := by
  rw [secondExpiry]
  split
  · next h => exact s.closeSlot_ring _ ((Slot.isOpen_iff _).2 (.inr h.1))
  · rfl

/-! ### Drops, orphans and adoption -/

@[simp] theorem State.lateAtSlot_ring (i : SlotNo) (n : LinkNo) : (s.lateAtSlot i n).ring = s.ring := s.setSlot_ring rfl

@[simp] theorem State.duplicateAtSlot_ring (i : SlotNo) (n : LinkNo) : (s.duplicateAtSlot i n).ring = s.ring :=
  s.setSlot_ring rfl

@[simp] theorem State.lateAtLink_ring (n : LinkNo) : (s.lateAtLink n).ring = s.ring := rfl
@[simp] theorem State.strayAtLink_ring (n : LinkNo) : (s.strayAtLink n).ring = s.ring := rfl

@[simp] theorem State.adoptInto_ring (i : SlotNo) (o : Orphan) : (s.adoptInto i o).ring = s.ring := by
  rw [adoptInto]
  dsimp only
  split
  case h_1 | h_2 | h_3 => exact s.setSlot_ring rfl
  case h_4 | h_5 | h_6 | h_7 => exact (returnCells_ring _ _).trans (s.duplicateAtSlot_ring i o.link)
  case h_8 => rfl

@[simp] theorem State.adoptAll_ring (i : SlotNo) (tag : Tag) : (s.adoptAll i tag).ring = s.ring :=
  foldl_ring _ (fun t o => t.adoptInto_ring i o) _

@[simp] theorem State.handOver_ring (i : SlotNo) (o : Orphan) : (s.handOver i o).ring = s.ring := by
  rw [handOver]; split <;> simp

@[simp] theorem State.placeCopy_ring (o : Orphan) : (s.placeCopy o).ring = s.ring := by
  rw [placeCopy]
  split
  · simp
  · split
    · simp
    · rfl

@[simp] theorem State.parkJobEnd_ring : s.parkJobEnd.ring = s.ring := by
  rw [parkJobEnd]
  split
  · rfl
  · split
    · exact (placeCopy_ring _ _).trans (dropHeld_ring _ _)
    · rfl

@[simp] theorem State.orphanExpiry_ring : s.orphanExpiry.ring = s.ring := by
  rw [orphanExpiry]
  split
  · rfl
  · exact returnCells_ring _ _

/-! ### The conditioning unit -/

@[simp] theorem State.takeContribution_ring (i : SlotNo) (n : LinkNo) : (s.takeContribution i n).ring = s.ring :=
  s.setSlot_ring rfl

@[simp] theorem State.takeExtra_ring (i : SlotNo) (n : LinkNo) : (s.takeExtra i n).ring = s.ring := s.setSlot_ring rfl

@[simp] theorem State.grantAtSlot_ring (n : LinkNo) (frame : List Word) (urgent : Bool) (i : SlotNo) :
    (s.grantAtSlot n frame urgent i).ring = s.ring := by
  rw [grantAtSlot]
  dsimp only
  split
  · exact takeContribution_ring s i n
  · exact takeExtra_ring s i n
  · simp
  · simp

@[simp] theorem State.grantUnmatched_ring (n : LinkNo) (frame : List Word) (urgent : Bool) :
    (s.grantUnmatched n frame urgent).ring = s.ring := by
  rw [grantUnmatched]
  split
  · rw [grantPark]
    split
    · simp
    · split
      · simp
      · exact takeCells_ring s _
  · simp
  · simp

@[simp] theorem State.grantFrame_ring (n : LinkNo) (frame : List Word) (urgent : Bool) :
    (s.grantFrame n frame urgent).ring = s.ring := by
  rw [grantFrame]; split <;> simp

@[simp] theorem State.grantNotice_ring (n : LinkNo) : (s.grantNotice n).ring = s.ring := by
  rw [grantNotice]; split <;> simp

@[simp] theorem State.grantFront_ring (n : LinkNo) (noticeFirst : Bool) : (s.grantFront n noticeFirst).ring = s.ring := by
  rw [grantFront]
  split
  · rfl
  · dsimp only; split <;> simp

@[simp] theorem State.grantEntry_ring (e : Adopted) (urgent : Bool) : (s.grantEntry e urgent).ring = s.ring := by
  rw [grantEntry]
  dsimp only
  split
  · exact takeContribution_ring s _ _
  · exact takeExtra_ring s _ _
  · simp
  · simp

@[simp] theorem State.grantAdoption_ring : s.grantAdoption.ring = s.ring := by
  rw [grantAdoption]
  split
  · rfl
  · dsimp only
    split
    · exact grantEntry_ring _ _ _
    · exact returnCells_ring _ _

@[simp] theorem State.arbiterGrant_ring (noticeFirst : Bool) : (s.arbiterGrant noticeFirst).ring = s.ring := by
  rw [arbiterGrant]
  split
  · rfl
  · split
    · rfl
    · rw [grant]
      split
      · exact grantFront_ring _ _ _
      · exact grantAdoption_ring _

@[simp] theorem State.offerPulse_ring (j : Job) (limit : Nat) (ws : List Word) :
    (s.offerPulse j limit ws).1.ring = s.ring := by
  rw [offerPulse]
  split
  · rfl
  · split
    · rfl
    · rw [writePulse]
      dsimp only
      split
      · rfl
      · exact takeCells_ring s _

@[simp] theorem State.writePulses_ring (j : Job) (c : ClassEntry) (place : Place) (t : Treatment)
    (pulses : List (List Sample)) : (s.writePulses j c place t pulses).1.ring = s.ring := by
  induction pulses generalizing s j with
  | nil => rfl
  | cons p rest ih =>
    rw [writePulses]
    dsimp only
    split
    · exact ih s _
    · split
      · simp
      · rw [ih]; simp

@[simp] theorem State.deliver_ring (j : Job) (flat : Nat) (raws : List Nat) : (s.deliver j flat raws).1.ring = s.ring := by
  rw [deliver]
  split
  · rfl
  · split
    · rfl
    · split <;> rfl

@[simp] theorem State.conditionBurst_ring (j : Job) (c : ClassEntry) (place : Place) (b : Burst) :
    (s.conditionBurst j c place b).1.ring = s.ring := by
  rw [conditionBurst]
  rw [writePulses_ring]
  split <;> simp

@[simp] theorem State.nextBurst_ring (j : Job) (i : SlotNo) : (s.nextBurst j i).1.ring = s.ring := by
  rw [nextBurst]
  split
  · rfl
  · rw [processBurst]
    split <;> simp

@[simp] theorem State.burstProcessing_ring : s.burstProcessing.ring = s.ring := by
  rw [burstProcessing]
  split
  · rfl
  · split
    · rfl
    · split
      · rfl
      · exact nextBurst_ring s _ _

@[simp] theorem State.removeSource_ring (j : Job) : (s.removeSource j).ring = s.ring := by
  rw [removeSource]; split <;> simp

/-- An attachment leaves the slot's state to the check that follows it. -/
theorem Slot.attach_state (x : Slot) (j : Job) : (x.attach j).state = x.state := by
  rw [Slot.attach]; split <;> rfl

@[simp] theorem State.conditioningJobEnd_ring : s.conditioningJobEnd.ring = s.ring := by
  rw [conditioningJobEnd]
  split
  · rfl
  · split
    · rfl
    · split
      · rw [endCondition]
        simp only [bump_ring, removeSource_ring, attachCheck_ring, returnCells_ring]
        exact s.setSlot_ring (congrArg SlotState.seat (Slot.attach_state _ _))
      · rfl

/-! ### The emitter, where no event frame starts or ends -/

@[simp] theorem State.returnAt_ring (i : SlotNo) (p : Position) : (s.returnAt i p).ring = s.ring := by
  unfold returnAt
  split
  · split
    · rw [returnFirstCell]
      split
      · rfl
      · exact (returnCells_ring _ _).trans (s.setSlot_ring rfl)
    · rfl
  all_goals rfl

@[simp] theorem State.eventFrameWordSent_ring : s.eventFrameWordSent.ring = s.ring := by
  rw [eventFrameWordSent]
  split
  · split
    · exact (returnAt_ring _ _ _).trans (s.setEmitter_ring rfl)
    · rfl
  · rfl

@[simp] theorem State.replyFrameStart_ring : s.replyFrameStart.ring = s.ring := by
  rw [replyFrameStart]
  split
  · next h =>
    have idle : s.emitter.frame = .none := by
      have boundary := h.1
      simp only [atBoundary, Bool.and_eq_true, beq_iff_eq] at boundary
      exact boundary.1
    exact s.setEmitter_ring (by rw [idle]; rfl)
  · rfl

@[simp] theorem State.replyFrameEnd_ring : s.replyFrameEnd.ring = s.ring := by
  rw [replyFrameEnd]
  split
  · next reply _ => exact s.setEmitter_ring (by rw [reply]; rfl)
  · rfl

@[simp] theorem State.farmFlowLive_ring (f : Flow) : (s.farmFlowLive f).ring = s.ring := by
  rw [farmFlowLive]
  split
  · rfl
  · dsimp only
    split <;> rfl

/-! ### The receivers -/

@[simp] theorem State.evalLane_ring (l : Lane) : (s.evalLane l).ring = s.ring := by
  cases l with
  | front n => exact evalFront_ring s n
  | timing | uplink => rfl

@[simp] theorem State.keepWord_ring (l : Lane) (w : Word) : (s.keepWord l w).ring = s.ring := by simp [keepWord]

@[simp] theorem State.countUnframed_ring (l : Lane) : (s.countUnframed l).ring = s.ring := by cases l <;> rfl
@[simp] theorem State.countMisplacedStart_ring (l : Lane) : (s.countMisplacedStart l).ring = s.ring := by cases l <;> rfl
@[simp] theorem State.countCut_ring (l : Lane) : (s.countCut l).ring = s.ring := by cases l <;> rfl
@[simp] theorem State.countFrameError_ring (l : Lane) : (s.countFrameError l).ring = s.ring := by cases l <;> rfl
@[simp] theorem State.countCodeError_ring (l : Lane) : (s.countCodeError l).ring = s.ring := by cases l <;> rfl
@[simp] theorem State.countTimingDiscard_ring : s.countTimingDiscard.ring = s.ring := rfl
@[simp] theorem State.countRequestDiscard_ring : s.countRequestDiscard.ring = s.ring := rfl
@[simp] theorem State.countRequestCrc_ring : s.countRequestCrc.ring = s.ring := rfl

@[simp] theorem State.countFront_ring (n : LinkNo) (k : LinkCounter) (e : ErrorCause) :
    (s.countFront n k e).ring = s.ring := rfl

@[simp] theorem State.lock_ring (l : Lane) : (s.lock l).ring = s.ring := by
  rw [lock]; split <;> simp

@[simp] theorem State.idle_ring (l : Lane) : (s.idle l).ring = s.ring := by
  rw [idle]
  split
  · rfl
  · rfl
  · split
    · cases l <;> rfl
    · simp
  · simp

@[simp] theorem State.startLive_ring (l : Lane) : (s.startLive l).ring = s.ring := by
  rw [startLive]; split <;> simp [openFrame]

@[simp] theorem State.dataLive_ring (l : Lane) (w : Word) : (s.dataLive l w).ring = s.ring := by
  unfold dataLive
  split
  · simp
  · rfl
  · cases l with
    | front n =>
      dsimp only
      rw [frontWord]
      split_ifs <;> simp
    | timing => dsimp only; rw [timingWord]; split <;> simp
    | uplink => dsimp only; rw [requestWord]; split <;> simp

@[simp] theorem State.cutLive_ring (l : Lane) : (s.cutLive l).ring = s.ring := by
  rw [cutLive]; split <;> simp

@[simp] theorem State.stallOut_ring (l : Lane) : (s.stallOut l).ring = s.ring := by
  rw [stallOut]; split <;> simp

@[simp] theorem State.judgeFront_ring (n : LinkNo) : (s.judgeFront n).ring = s.ring := by
  rw [judgeFront]; dsimp only; split_ifs <;> simp

@[simp] theorem State.receiveRequest_ring (content : List Word) : (s.receiveRequest content).ring = s.ring := by
  rw [receiveRequest]; split <;> rfl

@[simp] theorem State.judgeRequest_ring : s.judgeRequest.ring = s.ring := by
  rw [judgeRequest]; split_ifs <;> simp

@[simp] theorem State.noticeAtLoss_ring (n : LinkNo) : (s.noticeAtLoss n).ring = s.ring := by
  rw [noticeAtLoss]; split_ifs <;> simp

/-! ### The timebase -/

@[simp] theorem State.takeDeadlines_ring : s.takeDeadlines.ring = s.ring := s.foldl_ring (by simp) _

@[simp] theorem State.takeOrphans_ring (k : Nat) : (takeOrphans k s).ring = s.ring := by
  induction k generalizing s with
  | zero => rfl
  | succ k ih => exact (ih _).trans s.orphanExpiry_ring

@[simp] theorem State.takeStalls_ring : s.takeStalls.ring = s.ring := by
  simp only [takeStalls, stallOut_ring]
  exact s.foldl_ring (by simp) _

@[simp] theorem State.takeBoundaries_ring : s.takeBoundaries.ring = s.ring := by
  rw [takeBoundaries]
  exact s.foldl_ring wordBoundary_ring _

/-- The ring does not read the timebase. -/
theorem State.withTimebase_ring (now : Time) : { s with timebase := now }.ring = s.ring := rfl

@[simp] theorem State.tick_ring : s.tick.ring = s.ring :=
  calc s.tick.ring
    _ = s.takeDue.takeBoundaries.ring := withTimebase_ring _ _
    _ = s.ring := by simp [takeDue]

end Sys2Proof.Machine
end

section
/-! THEOREMS. What moves the ring (an admission, the start and the end of an event frame, a reset, a write of a class), and that
every step keeps its law (O10). -/

namespace Sys2Proof.Machine

open Sys2Proof.Safety

variable {s : State}

/-- What leaves the ring as it is keeps its law. -/
theorem SlotRing.Sound.of_eq {q r : SlotRing} (h : r.Sound) (same : q = r) : q.Sound := same ▸ h

/-! ### An admission -/

theorem State.openSlot_ring (s : State) (t : Trigger) : (s.openSlot t).ring = s.ring.enter := by
  rw [openSlot, evalTiming_ring, ring, SlotRing.enter]
  congr 1
  funext i
  by_cases e : i = s.put <;> simp [e, Function.update_apply, Bank.get_set, openedSlot, SlotState.seat, ring]

@[simp] theorem State.refuseTrigger_ring (s : State) (tag : Tag) (c : Counter) (e : ErrorCause) :
    (s.refuseTrigger tag c e).ring = s.ring := by
  rw [refuseTrigger]
  exact dropOrphans_ring _ _

/-- A trigger is admitted below the level of its class, which is at most 64, so the ring has room (R64). -/
theorem State.receiveTrigger_keeps_ring (h : s.ring.Sound) (t : Trigger) : (s.receiveTrigger t).ring.Sound := by
  rw [receiveTrigger]
  split_ifs with outside disabled duplicate level
  · exact h
  · exact h.of_eq (refuseTrigger_ring _ _ _ _)
  · exact h.of_eq (refuseTrigger_ring _ _ _ _)
  · exact h.of_eq (refuseTrigger_ring _ _ _ _)
  · have room : s.fill < 64 := (not_le.1 level).trans_le (h.level_le t.cls)
    have move : (s.openTrigger t).ring = s.ring.enter := by simp [openTrigger, openSlot_ring]
    exact (SlotRing.enter_sound h room).of_eq move

theorem State.judgeTiming_keeps_ring (h : s.ring.Sound) : s.judgeTiming.ring.Sound := by
  have left : (s.leaveFrame .timing .outside).ring.Sound := h.of_eq (leaveFrame_ring _ _ _)
  rw [judgeTiming]
  split
  · exact receiveTrigger_keeps_ring left _
  · exact left

theorem State.endLive_keeps_ring (h : s.ring.Sound) (l : Lane) : (s.endLive l).ring.Sound := by
  unfold endLive
  split
  · exact h.of_eq (countUnframed_ring _ _)
  · exact h.of_eq (setRx_ring _ _ _)
  · cases l with
    | front n => exact h.of_eq (judgeFront_ring _ _)
    | timing => exact judgeTiming_keeps_ring h
    | uplink => exact h.of_eq (judgeRequest_ring _)

/-! ### The start and the end of an event frame -/

/-- The CLOSED slot at get becomes EMITTING as its frame starts. -/
theorem State.eventFrameStart_keeps_ring (h : s.ring.Sound) : s.eventFrameStart.ring.Sound := by
  rw [eventFrameStart]
  dsimp only
  split
  · next may =>
    obtain ⟨_, _, closed, _⟩ := may
    have filled : s.ring.seat s.ring.get ≠ .free := by
      rw [show s.ring.seat s.ring.get = (s.slots.get s.get).state.seat from rfl, closed]
      simp [SlotState.seat]
    refine (SlotRing.send_sound h filled).of_eq ?_
    rw [emit_ring, ring, SlotRing.send]
    congr 1
    funext i
    by_cases e : i = s.get <;> simp [e, Function.update_apply, Bank.get_set, SlotState.seat, ring]
  · exact h

/-- The frame is over, whichever code ends it, and the slot at get becomes FREE. -/
theorem State.endFrame_ring (s : State) (c : LaneCode) :
    ({ s with emitter := Emitter.idle }.emit .uplink c).freeSlotAtGet.ring = s.ring.release := by
  rw [freeSlotAtGet_frame, ring, SlotRing.release]
  congr 1
  funext i
  by_cases e : i = s.get <;> simp [e, Function.update_apply, Bank.get_set, Slot.empty, SlotState.seat, ring]

/-- An event frame in progress ends, and the ring moves on. -/
theorem State.endFrame_keeps_ring (h : s.ring.Sound) (sending : s.emitter.frame = .event) (c : LaneCode) :
    ({ s with emitter := Emitter.idle }.emit .uplink c).freeSlotAtGet.ring.Sound :=
  (SlotRing.release_sound h (beq_iff_eq.2 sending)).of_eq (s.endFrame_ring c)

theorem State.eventFrameEnd_keeps_ring (h : s.ring.Sound) : s.eventFrameEnd.ring.Sound := by
  rw [eventFrameEnd]
  split
  · next may => exact (endFrame_keeps_ring h may.1 _).of_eq (bumpOption_ring _ _)
  · exact h

/-- A loss of the uplink ends the event frame in progress, if there is one (R168). -/
theorem State.abandonFrame_keeps_ring (h : s.ring.Sound) : s.abandonFrame.ring.Sound := by
  rw [abandonFrame]
  split
  · exact h
  · next sending => exact endFrame_keeps_ring h sending _
  · next reply => exact h.of_eq (s.setEmitter_ring (by rw [reply]; rfl))

theorem State.afterLoss_keeps_ring (h : s.ring.Sound) (l : Lane) : (s.afterLoss l).ring.Sound := by
  cases l with
  | front n => exact h.of_eq (noticeAtLoss_ring _ n)
  | timing => exact h
  | uplink =>
    have lost : (({ s with farmFlow := .go }.bump (.part .uplinkLosses)).addError .uplinkLost).ring.Sound := h
    exact abandonFrame_keeps_ring lost

/-- The fourth consecutive code error loses lock, and any other leaves the ring alone (R77). -/
theorem State.codeError_keeps_ring (h : s.ring.Sound) (l : Lane) : (s.codeError l).ring.Sound := by
  have counted (c : State) (hc : c.ring = s.ring) :
      (if (s.rx l).frame = .receiving then (c.leaveFrame l .discarding).countFrameError l else c).ring = s.ring := by
    split <;> simp [hc]
  rw [codeError]
  split
  · exact h
  · exact h
  · exact h.of_eq (setRx_ring _ _ _)
  · rw [codeErrorLive]
    dsimp only
    have counted := counted _ (s.countCodeError_ring l)
    split
    · exact afterLoss_keeps_ring (h.of_eq ((setRx_ring _ _ _).trans counted)) l
    · exact h.of_eq ((setRx_ring _ _ _).trans counted)

/-- A code does to the ring what it does at a LIVE receiver, or nothing. -/
theorem State.onValidCode_keeps_ring (h : s.ring.Sound) (l : Lane) {live : State → State}
    (keeps : ∀ t : State, t.ring.Sound → (live t).ring.Sound) : (s.onValidCode l live).ring.Sound := by
  rw [onValidCode]
  split
  · exact h
  · exact h
  · exact h.of_eq (setRx_ring _ _ _)
  · exact keeps _ (h.of_eq (setRx_ring _ _ _))

/-! ### The resets -/

theorem State.warmEmitter_frame (s : State) : s.warmEmitter.emitter.frame ≠ .event := by
  rw [warmEmitter]
  split <;> simp_all [Emitter.idle]

theorem State.warmEmitter_classes (s : State) : s.warmEmitter.classes = s.classes := by
  rw [warmEmitter]
  split <;> rfl

/-- A warm reset leaves an empty ring and the classes as they were (R28, R189). -/
theorem State.warmReset_ring (s : State) : s.warmReset.ring = SlotRing.empty s.ring.level := by
  have links : s.warmReset.ring = s.warmEmitter.emptied.ring :=
    (evalTiming_ring _).trans (foldl_ring _ (fun t n => setFront_ring t n _) _)
  have idle : (s.warmEmitter.emitter.frame == .event) = false := beq_eq_false_iff_ne.2 s.warmEmitter_frame
  rw [links]
  simp [ring, SlotRing.empty, emptied, idle, warmEmitter_classes, Slot.empty, SlotState.seat]

/-- A cold reset leaves an empty ring, and every class at admission level 64 (R28, R190). -/
theorem State.coldReset_ring (s : State) : s.coldReset.ring = SlotRing.empty (fun _ => 64) := by
  simp [ring, SlotRing.empty, coldReset, reset, Emitter.idle, Slot.empty, SlotState.seat, ClassEntry.cold]

/-! ### Requests -/

/-- A written field does not exceed the upper end of its range. -/
theorem clampNat_le {lo hi : Nat} (h : lo ≤ hi) (w : Word) : (clampNat lo hi w).value ≤ hi := by
  rw [clampNat]
  split_ifs <;> simp_all

/-- A written admission level is at most 64 (R178). -/
theorem State.storeClass_keeps_ring (h : s.ring.Sound) (index : Nat) (e : List Word) :
    (s.storeClass index e).1.ring.Sound where
  fill_le := h.fill_le
  run := h.run
  put_eq := h.put_eq
  sending_iff := h.sending_iff
  alone := h.alone
  level_le c := by
    rw [storeClass, ring]
    dsimp only
    rw [Bank.get_set]
    split
    · exact clampNat_le (by decide) _
    · exact h.level_le c

/-- Entries written one after another keep what the writing of one keeps. -/
theorem State.writeEach_keeps_ring (h : s.ring.Sound) {store : State → Nat → List Word → State × Bool}
    (keeps : ∀ (t : State) i e, t.ring.Sound → (store t i e).1.ring.Sound) (size index : Nat) (entries : List Word)
    (count : Nat) : (writeEach store size index entries count s).1.ring.Sound := by
  induction count with
  | zero => exact h
  | succ count ih => exact keeps _ _ _ ih

theorem State.runWrite_keeps_ring (h : s.ring.Sound) (q : Request) : (s.runWrite q).state.ring.Sound := by
  unfold runWrite
  split
  · split
    · exact h
    · split
      · exact writeEach_keeps_ring h (fun _ _ _ ht => ht) _ _ _ _
      · exact writeEach_keeps_ring h (fun _ i e ht => storeClass_keeps_ring ht i e) _ _ _ _
      · exact writeEach_keeps_ring h (fun _ _ _ ht => ht) _ _ _ _
      all_goals exact h
  all_goals exact h

theorem State.runWriteGeneral_keeps_ring (h : s.ring.Sound) (q : Request) : (s.runWriteGeneral q).state.ring.Sound := by
  unfold runWriteGeneral
  split
  · split_ifs
    · exact h
    · exact h
    · exact writeEach_keeps_ring h (fun _ _ _ ht => ht) _ _ _ _
  all_goals exact h

theorem State.runWriteWindows_keeps_ring (h : s.ring.Sound) (q : Request) : (s.runWriteWindows q).state.ring.Sound := by
  unfold runWriteWindows
  split
  · split
    · exact h
    · exact writeEach_keeps_ring h (fun _ _ _ ht => ht) _ _ _ _
  all_goals exact h

theorem State.runWriteRows_keeps_ring (h : s.ring.Sound) (q : Request) : (s.runWriteRows q).state.ring.Sound := by
  unfold runWriteRows
  split
  · split
    · exact h
    · exact writeEach_keeps_ring h (fun _ _ _ ht => ht) _ _ _ _
  all_goals exact h

theorem State.runRead_ring (s : State) (q : Request) : (s.runRead q).state.ring = s.ring := by cases q <;> rfl

theorem State.runSetupDone_ring (s : State) (q : Request) : (s.runSetupDone q).state.ring = s.ring := by
  rw [runSetupDone]
  split
  · rfl
  · split
    · rfl
    · exact evalTiming_ring _

theorem State.runStart_ring (s : State) (q : Request) : (s.runStart q).state.ring = s.ring := by
  rw [runStart]
  split
  · rfl
  · exact evalTiming_ring _

@[simp] theorem State.testDrain_ring (s : State) : s.testDrain.ring = s.ring := by
  rw [testDrain]
  split
  · exact (evalTiming_ring _).trans (s.dropOrphans_ring _)
  · rfl

theorem State.runStop_ring (s : State) (q : Request) : (s.runStop q).state.ring = s.ring := by
  rw [runStop]
  split
  · rfl
  · exact (testDrain_ring _).trans (evalTiming_ring _)

theorem State.runFlush_ring (s : State) (q : Request) : (s.runFlush q).state.ring = s.ring := by
  rw [runFlush]
  split
  · rfl
  · rw [accept, foldl_ring]
    exact flushSlot_ring

theorem State.runClearCounters_ring (s : State) (q : Request) : (s.runClearCounters q).state.ring = s.ring := by
  rw [runClearCounters]; split <;> rfl

theorem State.runBarLink_ring (s : State) (q : Request) : (s.runBarLink q).state.ring = s.ring := by
  rw [runBarLink]
  split
  · rfl
  · rw [accept, barLink]
    dsimp only
    rw [evalFront_ring]
    split <;> simp

theorem State.runUnbarLink_ring (s : State) (q : Request) : (s.runUnbarLink q).state.ring = s.ring := by
  rw [runUnbarLink]; split <;> rfl

theorem State.runPedestalStart_ring (s : State) (q : Request) : (s.runPedestalStart q).state.ring = s.ring := by
  rw [runPedestalStart]; split <;> rfl

theorem State.runPedestalStop_ring (s : State) (q : Request) : (s.runPedestalStop q).state.ring = s.ring := by
  rw [runPedestalStop]; split <;> rfl

theorem State.runPedestalAdopt_ring (s : State) (q : Request) : (s.runPedestalAdopt q).state.ring = s.ring := by
  rw [runPedestalAdopt]; split <;> rfl

/-- Taking a request does to the ring what its execution does, or nothing. -/
theorem State.take_keeps_ring (h : s.ring.Sound) (row : RequestRow) {run : State → Request → Answer}
    (keeps : ∀ (t : State) (q : Request), t.ring.Sound → (run t q).state.ring.Sound) : (s.take row run).ring.Sound := by
  rw [take]
  split
  · exact h
  · split
    · split
      · exact h
      · exact keeps _ _ h
    · exact h

/-- A request whose execution leaves the ring alone. -/
theorem State.take_ring_sound (h : s.ring.Sound) (row : RequestRow) {run : State → Request → Answer}
    (same : ∀ (t : State) (q : Request), (run t q).state.ring = t.ring) : (s.take row run).ring.Sound :=
  take_keeps_ring h row (fun t q ht => ht.of_eq (same t q))

/-! ### Every step -/

/-- Every command answers a next state, and its ring is sound. -/
theorem exec_keeps_ring (h : s.ring.Sound) (c : Instr) : ∃ t, exec c s = .next t ∧ t.ring.Sound := by
  have atBoundary (l : Lane) : (s.wordBoundary l).ring.Sound := h.of_eq (s.wordBoundary_ring l)
  cases c with
  | coldReset => exact ⟨_, rfl, (SlotRing.empty_sound (fun _ => le_rfl)).of_eq s.coldReset_ring⟩
  | symbolLock l => exact ⟨_, rfl, h.of_eq (s.lock_ring l)⟩
  | linkIdle l => exact ⟨_, rfl, (atBoundary l).of_eq (State.idle_ring _ l)⟩
  | linkStart l =>
    exact ⟨_, rfl, State.onValidCode_keeps_ring (atBoundary l) l (fun t ht => ht.of_eq (t.startLive_ring l))⟩
  | linkDataWord l w =>
    exact ⟨_, rfl, State.onValidCode_keeps_ring (atBoundary l) l (fun t ht => ht.of_eq (t.dataLive_ring l w))⟩
  | linkEnd l =>
    exact ⟨_, rfl, State.onValidCode_keeps_ring (atBoundary l) l (fun _ ht => State.endLive_keeps_ring ht l)⟩
  | linkCut l =>
    exact ⟨_, rfl, State.onValidCode_keeps_ring (atBoundary l) l (fun t ht => ht.of_eq (t.cutLive_ring l))⟩
  | linkCodeError l => exact ⟨_, rfl, State.codeError_keeps_ring (atBoundary l) l⟩
  | farmFlowSymbol f =>
    exact ⟨_, rfl, State.onValidCode_keeps_ring h .uplink (fun t ht => ht.of_eq (t.farmFlowLive_ring f))⟩
  | inboundFlowSymbol l f =>
    cases l with
    | front n => exact ⟨_, rfl, State.onValidCode_keeps_ring (atBoundary _) _ (fun _ ht => ht)⟩
    | timing => exact ⟨_, rfl, State.onValidCode_keeps_ring (atBoundary _) _ (fun _ ht => ht)⟩
    | uplink => exact ⟨_, rfl, State.onValidCode_keeps_ring h _ (fun t ht => ht.of_eq (t.farmFlowLive_ring f))⟩
  | frontStallExpiry n => exact ⟨_, rfl, h.of_eq (s.stallOut_ring _)⟩
  | timingStallExpiry => exact ⟨_, rfl, h.of_eq (s.stallOut_ring _)⟩
  | requestStallExpiry => exact ⟨_, rfl, h.of_eq (s.stallOut_ring _)⟩
  | arbiterGrant b => exact ⟨_, rfl, h.of_eq (s.arbiterGrant_ring b)⟩
  | burstProcessing => exact ⟨_, rfl, h.of_eq s.burstProcessing_ring⟩
  | conditioningJobEnd => exact ⟨_, rfl, h.of_eq s.conditioningJobEnd_ring⟩
  | parkJobEnd => exact ⟨_, rfl, h.of_eq s.parkJobEnd_ring⟩
  | firstExpiry i => exact ⟨_, rfl, h.of_eq (s.firstExpiry_ring i)⟩
  | secondExpiry i => exact ⟨_, rfl, h.of_eq (s.secondExpiry_ring i)⟩
  | orphanExpiry => exact ⟨_, rfl, h.of_eq s.orphanExpiry_ring⟩
  | eventFrameStart => exact ⟨_, rfl, State.eventFrameStart_keeps_ring h⟩
  | eventFrameWordSent => exact ⟨_, rfl, h.of_eq s.eventFrameWordSent_ring⟩
  | eventFrameEnd => exact ⟨_, rfl, State.eventFrameEnd_keeps_ring h⟩
  | replyFrameStart => exact ⟨_, rfl, h.of_eq s.replyFrameStart_ring⟩
  | replyFrameEnd => exact ⟨_, rfl, h.of_eq s.replyFrameEnd_ring⟩
  | drainCompletion => exact ⟨_, rfl, h.of_eq s.testDrain_ring⟩
  | read => exact ⟨_, rfl, State.take_ring_sound h _ State.runRead_ring⟩
  | write => exact ⟨_, rfl, State.take_keeps_ring h _ (fun _ q ht => State.runWrite_keeps_ring ht q)⟩
  | writeGeneral => exact ⟨_, rfl, State.take_keeps_ring h _ (fun _ q ht => State.runWriteGeneral_keeps_ring ht q)⟩
  | writeWindows => exact ⟨_, rfl, State.take_keeps_ring h _ (fun _ q ht => State.runWriteWindows_keeps_ring ht q)⟩
  | writeRows => exact ⟨_, rfl, State.take_keeps_ring h _ (fun _ q ht => State.runWriteRows_keeps_ring ht q)⟩
  | setupDone => exact ⟨_, rfl, State.take_ring_sound h _ State.runSetupDone_ring⟩
  | start => exact ⟨_, rfl, State.take_ring_sound h _ State.runStart_ring⟩
  | stop => exact ⟨_, rfl, State.take_ring_sound h _ State.runStop_ring⟩
  | flush => exact ⟨_, rfl, State.take_ring_sound h _ State.runFlush_ring⟩
  | warmReset =>
    exact ⟨_, rfl, State.take_keeps_ring h _ (fun t _ ht => (SlotRing.empty_sound ht.level_le).of_eq t.warmReset_ring)⟩
  | clearCounters => exact ⟨_, rfl, State.take_ring_sound h _ State.runClearCounters_ring⟩
  | clearErrors => exact ⟨_, rfl, State.take_ring_sound h _ (fun _ _ => rfl)⟩
  | barLink => exact ⟨_, rfl, State.take_ring_sound h _ State.runBarLink_ring⟩
  | unbarLink => exact ⟨_, rfl, State.take_ring_sound h _ State.runUnbarLink_ring⟩
  | pedestalStart => exact ⟨_, rfl, State.take_ring_sound h _ State.runPedestalStart_ring⟩
  | pedestalStop => exact ⟨_, rfl, State.take_ring_sound h _ State.runPedestalStop_ring⟩
  | pedestalAdopt => exact ⟨_, rfl, State.take_ring_sound h _ State.runPedestalAdopt_ring⟩
  | undefinedRequest => exact ⟨_, rfl, State.take_ring_sound h _ (fun _ _ => rfl)⟩

/-- Settles O10: a step is the front command or the end of a microsecond, and both keep the law of the ring. -/
theorem stepKeepsTheRing : Obligations.StepKeepsTheRing := by
  unfold Obligations.StepKeepsTheRing
  intro s t sound stepped
  have h := s.ringSound_iff.1 sound
  refine t.ringSound_iff.2 ?_
  rw [step] at stepped
  split at stepped
  · rw [← Host.Outcome.next.inj stepped]
    exact h.of_eq s.tick_ring
  · next c rest _ =>
    have queued : { s with pending := rest }.ring.Sound := h
    obtain ⟨u, executed, kept⟩ := exec_keeps_ring queued c
    rw [← Host.Outcome.next.inj (executed.symm.trans stepped)]
    exact kept

end Sys2Proof.Machine
end

section
/-! THEOREMS. The grant of a front frame that delivers no loss notice, and what the frame meets at the slot that carries its
tag (O35). -/

namespace Sys2Proof.Machine

variable {s : State}

/-! ### The grant -/

/-- Some front link is urgent, in the words of the manual and of the machine. -/
theorem State.anyUrgent_eq (s : State) : s.anyUrgent = Spec.anyUrgent s := by
  rw [Bool.eq_iff_iff, anyUrgent, Bank.any_iff]
  simp [Spec.anyUrgent, FrontLink.urgent, Config.fifoHoldLevel]

/-- What R92 asks of a front link before a grant delivers its notice. -/
def FrontLink.noticeDue (f : FrontLink) : Prop := f.notice = .pending ∧ f.rx.link ≠ .live ∧ f.waiting = []

theorem State.grantNotice_of_not_due {n : LinkNo} (h : ¬ (s.front.get n).noticeDue) : s.grantNotice n = s := if_neg h

/-- The flow decision toward a card leaves its notice to be delivered or not. -/
theorem State.evalFront_noticeDue (s : State) (n : LinkNo) :
    ((s.evalFront n).front.get n).noticeDue ↔ (s.front.get n).noticeDue := by
  obtain ⟨_, _, same⟩ := s.evalFront_front_self n
  rw [same]
  rfl

theorem State.dropHeld_noticeDue (s : State) (n : LinkNo) :
    ((s.dropHeld n).front.get n).noticeDue ↔ (s.front.get n).noticeDue := by
  rw [dropHeld, evalFront_noticeDue, setFront_front, Bank.get_set_self]
  rfl

/-- The lookup of a granted frame leaves the link as it is but for the held frame, and so its notice. -/
theorem State.grantFrame_noticeDue (s : State) (n : LinkNo) (frame : List Word) (urgent : Bool) :
    ((s.grantFrame n frame urgent).front.get n).noticeDue ↔ (s.front.get n).noticeDue := by
  rw [grantFrame]
  split
  · rw [grantAtSlot]
    dsimp only
    split
    · rfl
    · rfl
    · exact dropHeld_noticeDue _ n
    · exact dropHeld_noticeDue _ n
  · rw [grantUnmatched]
    split
    · rw [grantPark]
      split_ifs
      · exact dropHeld_noticeDue _ n
      · exact dropHeld_noticeDue _ n
      · rw [startPark, takeCells_frame]
    · exact dropHeld_noticeDue _ n
    · exact dropHeld_noticeDue _ n

/-- No job is in progress, and the grant goes to the requester that the arbiter has chosen (R109). -/
theorem State.arbiterGrant_of_chosen {r : Requester} (free : s.job = none) (chosen : s.chosen = some r)
    (noticeFirst : Bool) : s.arbiterGrant noticeFirst = s.grant r noticeFirst := by
  rw [arbiterGrant, free]
  dsimp only
  rw [chosen]

/-- The rotation position becomes the link's number, and its front frame is granted (R111). -/
theorem State.grant_castSucc (s : State) (n : LinkNo) (noticeFirst : Bool) :
    s.grant n.castSucc noticeFirst = { s with rotation := n.castSucc }.grantFront n noticeFirst := dif_pos n.isLt

/-- A grant that delivers no notice is the lookup of the frame, which the job holds by then (R87, R111, R113). -/
theorem exec_arbiterGrant_of_grants {n : LinkNo} {frame : List Word} {rest : List (List Word)}
    (h : Spec.grants s n frame rest) (noticeFirst : Bool) :
    exec (.arbiterGrant noticeFirst) s =
      .next ((Spec.granted s n frame rest).grantFrame n frame (Spec.anyUrgent s)) := by
  obtain ⟨free, chosen, waiting, quiet⟩ := h
  have none_due : ¬ ((Spec.granted s n frame rest).front.get n).noticeDue := by
    rw [Spec.granted, State.setFront_front, Bank.get_set_self]
    rintro ⟨pending, dark, last⟩
    exact quiet.elim (· pending) (·.elim dark (· last))
  have looked : { s with rotation := n.castSucc }.grantFront n noticeFirst =
      (Spec.granted s n frame rest).grantFrame n frame s.anyUrgent := by
    rw [State.grantFront, waiting]
    dsimp only
    split
    · exact congrArg (State.grantFrame · n frame s.anyUrgent) (State.grantNotice_of_not_due none_due)
    · exact State.grantNotice_of_not_due (mt (State.grantFrame_noticeDue _ n frame s.anyUrgent).1 none_due)
  rw [← s.anyUrgent_eq, ← looked, ← s.grant_castSucc, ← State.arbiterGrant_of_chosen free chosen]
  rfl

/-! ### The lookup -/

/-- The one slot that carries a tag is the one the lookup finds (R7, R9). -/
theorem State.slotOfTag_of_matching {tag : Tag} {i : SlotNo} (h : Spec.matching s tag i) : s.slotOfTag tag = some i := by
  obtain ⟨filled, carries, only⟩ := h
  cases found : s.slotOfTag tag with
  | none => exact absurd carries ((s.slotOfTag_none tag).1 found i filled)
  | some k =>
    obtain ⟨other, same⟩ := s.slotOfTag_some found
    rw [only k other same]

variable {x : Slot} {n : LinkNo}

/-- An OPEN or EXTENDED slot takes the fragment of a link it waits for, or has given up as LOST or ABSENT (R10). -/
theorem Slot.find_condition (h : Spec.isOpen x)
    (c : x.contribs.get n = some .awaited ∨ x.contribs.get n = some .lost ∨ x.contribs.get n = some .absent) :
    x.find n = .condition := by
  rw [Slot.find, (x.isOpen_iff).2 h]
  rcases c with c | c | c <;> rw [c] <;> rfl

/-- It takes the first fragment of a link outside its expected set as an extra (R10). -/
theorem Slot.find_extra (h : Spec.isOpen x) (c : x.contribs.get n = none) (e : x.extras.get n = none) :
    x.find n = .extra := by
  rw [Slot.find, (x.isOpen_iff).2 h, c, e]
  rfl

/-- It drops a further fragment of a link as a duplicate (R10). -/
theorem Slot.find_duplicate (h : Spec.isOpen x)
    (c : x.contribs.get n = some .queued ∨ x.contribs.get n = some .conditioning ∨ x.contribs.get n = some .arrived
      ∨ (x.contribs.get n = none ∧ x.extras.get n ≠ none)) : x.find n = .duplicate := by
  rw [Slot.find, (x.isOpen_iff).2 h]
  rcases c with c | c | c | ⟨c, e⟩
  · rw [c]; rfl
  · rw [c]; rfl
  · rw [c]; rfl
  · rw [c]; exact if_pos (Option.isSome_iff_ne_none.2 e)

/-- Any other slot finds the fragment late (R10). -/
theorem Slot.find_late (h : ¬ Spec.isOpen x) : x.find n = .late := by
  rw [Slot.find, Bool.eq_false_iff.2 (mt (x.isOpen_iff).1 h)]
  rfl

/-- Settles O35: the grant is the lookup of the frame at the one slot that carries its tag, and the finding there decides. -/
theorem grantMeetsItsSlot : Obligations.GrantMeetsItsSlot := by
  unfold Obligations.GrantMeetsItsSlot
  intro s b n frame rest i tag x v job grants carries
  have meets : exec (.arbiterGrant b) s = .next (v.grantAtSlot n frame (Spec.anyUrgent s) i) := by
    have found : v.slotOfTag tag = some i := State.slotOfTag_of_matching (s := v) carries
    rw [exec_arbiterGrant_of_grants grants b, State.grantFrame, found]
  rw [meets, State.grantAtSlot]
  refine ⟨fun isOpen c => ?_, fun isOpen c e => ?_, fun isOpen c => ?_, fun notOpen => ?_⟩
  · rw [show (v.slots.get i).find n = .condition from Slot.find_condition isOpen c]; rfl
  · rw [show (v.slots.get i).find n = .extra from Slot.find_extra isOpen c e]; rfl
  · rw [show (v.slots.get i).find n = .duplicate from Slot.find_duplicate isOpen c]; rfl
  · rw [show (v.slots.get i).find n = .late from Slot.find_late notOpen]; rfl

end Sys2Proof.Machine
end

section
/-! THEOREMS. Flush (O56), with what it rests on: every counter has an entry of its own, a COMMAND is taken by the row of its
verb, and a closure does what R18 and R19 say. -/

namespace Sys2Proof.Machine

/-! ### Every counter has an entry of its own (R180) -/

theorem LinkCounter.number_eq_ctorIdx (k : LinkCounter) : k.number = k.ctorIdx := by cases k <;> rfl

theorem LinkCounter.number_lt (k : LinkCounter) : k.number < 22 := by cases k <;> decide

theorem LinkCounter.number_injective : Function.Injective LinkCounter.number := fun k m h => by
  rw [number_eq_ctorIdx, number_eq_ctorIdx] at h
  rw [← LinkCounter.ofNat_ctorIdx k, h, LinkCounter.ofNat_ctorIdx]

theorem PartCounter.entry_eq_ctorIdx (p : PartCounter) : p.entry = 544 + p.ctorIdx := by cases p <;> rfl

theorem PartCounter.entry_injective : Function.Injective PartCounter.entry := fun p q h => by
  rw [entry_eq_ctorIdx, entry_eq_ctorIdx, Nat.add_left_cancel_iff] at h
  rw [← PartCounter.ofNat_ctorIdx p, h, PartCounter.ofNat_ctorIdx]

theorem PartCounter.le_entry (p : PartCounter) : 544 ≤ p.entry := by
  rw [entry_eq_ctorIdx]; exact Nat.le_add_right _ _

/-- Within a group of counters no two entries agree, and the four groups lie one behind the other. -/
theorem Counter.entry_injective : Function.Injective Counter.entry := by
  intro c d h
  cases c <;> cases d <;> simp only [entry] at h
  case link.link k n m o =>
    rw [LinkCounter.number_injective (show k.number = m.number by omega), Fin.ext (show n.val = o.val by omega)]
  case admitted.admitted => rw [Fin.ext (Nat.add_left_cancel h)]
  case refusedLevel.refusedLevel => rw [Fin.ext (Nat.add_left_cancel h)]
  case part.part => rw [PartCounter.entry_injective h]
  all_goals grind [LinkCounter.number_lt, PartCounter.le_entry]

variable (s : State)

/-- Raising a counter leaves every other counter alone. -/
theorem State.counter_bumpBy_ne {c d : Counter} (k : Nat) (h : d ≠ c) : (s.bumpBy c k).counter d = s.counter d :=
  Memory.read_write_ne _ _ (Counter.entry_injective.ne h)

/-! ### A COMMAND is taken by the row of its verb (R174, R196) -/

theorem requestKind_command (number : BitVec 8) (verb : Nat) (argument : Word) :
    requestKind (Spec.command number verb argument) = 3 := by
  rw [requestKind, Spec.command, List.getD_cons_zero, field, BitVec.toNat_append, Nat.shiftRight_or_distrib,
    Nat.shiftLeft_shiftRight, Nat.shiftRight_eq_zero _ _ number.isLt]
  rfl

theorem rowOf_command {number : BitVec 8} {verb : Nat} {argument : Word} {v : Verb}
    (defined : Verb.ofWord (BitVec.ofNat 16 verb) = some v) :
    rowOf (Spec.command number verb argument) = .command v := by
  rw [rowOf, requestKind_command]
  simp [commandRow, Spec.command, defined]

/-- A verb that reads no link number passes the checks with any argument (R175). -/
theorem judge_command {number : BitVec 8} {verb : Nat} {argument : Word} {v : Verb}
    (defined : Verb.ofWord (BitVec.ofNat 16 verb) = some v) (noLink : v.namesLink = false) :
    judge (Spec.command number verb argument) = .pass (.command v argument) := by
  rw [judge, requestKind_command]
  simp [judgeCommand, Spec.command, defined, noLink]

/-- The machine's reply is the manual's: both give the low byte of content word 0 as the request number (R199). -/
theorem replyTo_eq (content : List Word) (r : Result) (data : List Word) :
    replyTo content r data = Spec.replyOf content r data := by
  rw [replyTo, Spec.replyOf, requestNumber, BitVec.ofNat_toNat]

variable {s} {number : BitVec 8} {verb : Nat} {argument : Word} {rest : List (List Word)} {v : Verb}

/-- Run control takes a COMMAND whose verb reads no link number: it is executed on the queue's rest, and answered. -/
theorem State.take_command (h : Spec.takes s (Spec.command number verb argument) rest)
    (defined : Verb.ofWord (BitVec.ofNat 16 verb) = some v) (noLink : v.namesLink = false)
    (run : State → Request → Answer) :
    s.take (.command v) run =
      let a := run (Spec.taken s rest) (.command v argument)
      Spec.replied a.state (Spec.command number verb argument) a.result a.data := by
  obtain ⟨queued, idle, room⟩ := h
  have may : s.mayTake = true := by simp [mayTake, idle, room, Config.replyCapacity]
  rw [s.take_passed _ run queued may (rowOf_command defined) (judge_command defined noLink), Answer.finish, replyTo_eq]
  rfl

/-! ### A closure (R18, R19) -/

/-- The status of a closure asks the closed contributions for what R19 asks of them: MISSING is neither none nor ARRIVED. -/
theorem closeContribution_whole_iff (c : Option Contribution) :
    (closeContribution c = none ∨ closeContribution c = some .arrived) ↔ c = none ∨ c = some .arrived := by
  rw [closeContribution]
  split
  · next h => simp [h]
  · rfl

/-- The machine's closure is the manual's. -/
theorem Slot.close_eq (x : Slot) (c : Cause) : x.close c = Spec.closed x c := by
  have contribs : x.contribs.map closeContribution = Spec.closedContribs x :=
    Bank.ext_get fun n => by rw [Spec.closedContribs, Bank.get_map, Bank.get_build, closeContribution]
  have whole : (x.contribs.map closeContribution).any (fun c => c.isSome && c != some .arrived) = false ↔
      ∀ n, x.contribs.get n = none ∨ x.contribs.get n = some .arrived := by
    rw [← Bool.not_eq_true, Bank.any_iff, not_exists]
    refine forall_congr' fun n => ?_
    rw [Bank.get_map, ← closeContribution_whole_iff]
    cases closeContribution (x.contribs.get n) <;> simp
  have status : closureStatus c (x.contribs.map closeContribution) = (Spec.closed x c).status := by
    rw [closureStatus, Spec.closed]
    split
    · rfl
    · simp only [← whole]
      cases Bank.any _ _ <;> rfl
  have state : (if x.busy then SlotState.closing else .closed) = (Spec.closed x c).state := by
    simp only [x.busy_iff]; rfl
  rw [Slot.close, status, state, contribs]
  rfl

/-! ### Flush at one slot -/

/-- What Flush owes a slot between two states: an OPEN or EXTENDED slot is closed with cause FLUSH and its deadline
cancelled, and any other slot keeps its record and its deadline (R35, R39). -/
def FlushedAt (s t : State) (i : SlotNo) : Prop :=
  (Spec.isOpen (s.slots.get i) →
      t.slots.get i = Spec.closed (s.slots.get i) .flush
        ∧ t.deadlines.get i = { s.deadlines.get i with stage := .none })
    ∧ (¬ Spec.isOpen (s.slots.get i) → t.slots.get i = s.slots.get i ∧ t.deadlines.get i = s.deadlines.get i)

theorem State.flushSlot_self (s : State) (i : SlotNo) : FlushedAt s (s.flushSlot i) i := by
  by_cases h : (s.slots.get i).isOpen = true
  · refine ⟨fun _ => ?_, fun shut => absurd ((Slot.isOpen_iff _).1 h) shut⟩
    rw [flushSlot, if_pos h, closeSlot_frame, ← Slot.close_eq]
    exact ⟨Bank.get_set_self _ _ _, Bank.get_set_self _ _ _⟩
  · refine ⟨fun opened => absurd ((Slot.isOpen_iff _).2 opened) h, fun _ => ?_⟩
    rw [flushSlot, if_neg h]
    exact ⟨rfl, rfl⟩

/-- Every other slot and its deadline stay. -/
theorem State.flushSlot_other (s : State) {i j : SlotNo} (h : j ≠ i) :
    (s.flushSlot i).slots.get j = s.slots.get j ∧ (s.flushSlot i).deadlines.get j = s.deadlines.get j := by
  rw [flushSlot]
  split
  · exact ⟨Bank.get_set_ne _ _ h, Bank.get_set_ne _ _ h⟩
  · exact ⟨rfl, rfl⟩

/-- Flush at a slot changes at most the slots, the deadlines and the counters. -/
theorem State.flushSlot_frame (s : State) (i : SlotNo) :
    s.flushSlot i =
      { s with
        slots := (s.flushSlot i).slots, deadlines := (s.flushSlot i).deadlines
        counters := (s.flushSlot i).counters } := by
  rw [flushSlot]
  split <;> rfl

theorem State.wf_flushSlot (i : SlotNo) (wf : Memory.wf 0 s.counters = true) :
    Memory.wf 0 (s.flushSlot i).counters = true := by
  rw [flushSlot]
  split
  · exact wf_bumpBy _ _ 1 wf
  · exact wf

/-- The flush closures counter rises by one where the slot was OPEN or EXTENDED (R41). -/
theorem State.flushSlot_flushClosures (i : SlotNo) (wf : Memory.wf 0 s.counters = true)
    (bounded : s.counter (.part .flushClosures) ≤ Config.counterMax) :
    (s.flushSlot i).counter (.part .flushClosures) =
      min Config.counterMax (s.counter (.part .flushClosures) + if (s.slots.get i).isOpen then 1 else 0) := by
  rw [flushSlot]
  split
  · exact counter_bumpBy_self _ _ 1 wf
  · exact (min_eq_right bounded).symm

/-- No other counter rises. -/
theorem State.flushSlot_counter_ne (s : State) (i : SlotNo) {c : Counter} (h : c ≠ .part .flushClosures) :
    (s.flushSlot i).counter c = s.counter c := by
  rw [flushSlot]
  split
  · exact counter_bumpBy_ne _ 1 h
  · rfl

/-! ### Flush at each slot of a list -/

/-- Flush at each slot of a list in turn. -/
def State.flushSlots (s : State) (l : List SlotNo) : State := l.foldl State.flushSlot s

/-- In SETUP and READY Flush is refused (R39). -/
theorem State.runFlush_of_tablesOpen (h : Spec.tablesOpen s) (q : Request) : s.runFlush q = s.refuse .badState := if_pos h

/-- In RUNNING and DRAINING it goes through the whole table (R39). -/
theorem State.runFlush_of_not_tablesOpen (h : ¬ Spec.tablesOpen s) (q : Request) :
    s.runFlush q = (s.flushSlots (indices 64)).accept := if_neg h

theorem State.flushSlots_cons (s : State) (i : SlotNo) (l : List SlotNo) :
    s.flushSlots (i :: l) = (s.flushSlot i).flushSlots l := rfl

theorem State.flushSlots_frame (s : State) (l : List SlotNo) :
    s.flushSlots l =
      { s with
        slots := (s.flushSlots l).slots, deadlines := (s.flushSlots l).deadlines
        counters := (s.flushSlots l).counters } := by
  induction l generalizing s with
  | nil => rfl
  | cons i l ih => rw [flushSlots_cons, ih, flushSlot_frame]

theorem State.flushSlots_counter_ne (s : State) (l : List SlotNo) {c : Counter} (h : c ≠ .part .flushClosures) :
    (s.flushSlots l).counter c = s.counter c := by
  induction l generalizing s with
  | nil => rfl
  | cons i l ih => rw [flushSlots_cons, ih, flushSlot_counter_ne s i h]

/-- A slot that the list leaves out stays, and its deadline with it. -/
theorem State.flushSlots_of_notMem {l : List SlotNo} {j : SlotNo} (h : j ∉ l) :
    (s.flushSlots l).slots.get j = s.slots.get j ∧ (s.flushSlots l).deadlines.get j = s.deadlines.get j := by
  induction l generalizing s with
  | nil => exact ⟨rfl, rfl⟩
  | cons i l ih =>
    obtain ⟨here, later⟩ := List.ne_and_not_mem_of_not_mem_cons h
    obtain ⟨slot, deadline⟩ := s.flushSlot_other here
    rw [flushSlots_cons, ← slot, ← deadline]
    exact ih later

/-- A slot of the list is flushed: neither the slots before it nor those after it touch its record. -/
theorem State.flushSlots_of_mem {l : List SlotNo} {j : SlotNo} (once : l.Nodup) (h : j ∈ l) :
    FlushedAt s (s.flushSlots l) j := by
  induction l generalizing s with
  | nil => cases h
  | cons i l ih =>
    obtain ⟨fresh, once⟩ := List.nodup_cons.1 once
    rw [flushSlots_cons]
    rcases List.mem_cons.1 h with rfl | later
    · obtain ⟨slot, deadline⟩ := (s.flushSlot j).flushSlots_of_notMem fresh
      rw [FlushedAt, slot, deadline]
      exact s.flushSlot_self j
    · obtain ⟨slot, deadline⟩ := s.flushSlot_other (ne_of_mem_of_not_mem later fresh)
      have flushed := ih (s := s.flushSlot i) once later
      rw [FlushedAt, slot, deadline] at flushed
      exact flushed

/-- The flush closures counter rises once for each slot of the list that was OPEN or EXTENDED (R41, R180). -/
theorem State.flushSlots_flushClosures {l : List SlotNo} (once : l.Nodup) (wf : Memory.wf 0 s.counters = true)
    (bounded : s.counter (.part .flushClosures) ≤ Config.counterMax) :
    (s.flushSlots l).counter (.part .flushClosures) =
      min Config.counterMax
        (s.counter (.part .flushClosures) + l.countP (fun i => (s.slots.get i).isOpen)) := by
  induction l generalizing s with
  | nil => exact (min_eq_right bounded).symm
  | cons i l ih =>
    obtain ⟨fresh, once⟩ := List.nodup_cons.1 once
    have raised := s.flushSlot_flushClosures i wf bounded
    have untouched : l.countP (fun j => ((s.flushSlot i).slots.get j).isOpen) =
        l.countP (fun j => (s.slots.get j).isOpen) :=
      List.countP_congr fun j later => by rw [(s.flushSlot_other (ne_of_mem_of_not_mem later fresh)).1]
    rw [flushSlots_cons, ih once (wf_flushSlot i wf) (raised ▸ min_le_left _ _), untouched, raised, List.countP_cons]
    omega

/-! ### Flush -/

/-- Settles O56: Flush is refused where the tables are open, and else it is the flush of every slot of the table, once each. -/
theorem flushClosesEveryOpenSlot : Obligations.FlushClosesEveryOpenSlot := by
  unfold Obligations.FlushClosesEveryOpenSlot
  intro s number argument rest content opened takes
  have answered : exec .flush s = .next (s.take (.command .flush) State.runFlush) := rfl
  rw [answered, State.take_command takes rfl rfl]
  refine ⟨fun tables => ?_, fun shut canonical bounded => ?_⟩
  · rw [State.runFlush_of_tablesOpen (s := Spec.taken s rest) tables]
    rfl
  · have counted : opened.length = (indices 64).countP (fun i => (s.slots.get i).isOpen) :=
      List.countP_eq_length_filter.symm
    have frame := State.flushSlots_frame (Spec.taken s rest) (indices 64)
    have flushed (i : SlotNo) := State.flushSlots_of_mem (s := Spec.taken s rest) indices_nodup (mem_indices i)
    have raised := State.flushSlots_flushClosures (s := Spec.taken s rest) indices_nodup canonical.1 (bounded _)
    have others (c : Counter) := State.flushSlots_counter_ne (c := c) (Spec.taken s rest) (indices 64)
    rw [State.runFlush_of_not_tablesOpen (s := Spec.taken s rest) shut, counted]
    generalize (Spec.taken s rest).flushSlots (indices 64) = t at frame flushed raised others ⊢
    exact ⟨t, rfl, frame, flushed, raised, others⟩

end Sys2Proof.Machine
end

section
/-! THEOREMS. The grant of a front frame whose tag no slot carries: its classification, and the outcomes of a park (O36). -/

namespace Sys2Proof.Machine

/-! ### The table of R43 -/

section

variable {run : RunState} {newest : Option Tag} {lookAhead : Nat} {t tag : Tag}

/-- Outside RUNNING every fragment is stray. -/
theorem classify_of_not_running (h : run ≠ .running) : classify run newest lookAhead tag = .stray := if_pos h

/-- The newest tag itself and the half of the tags behind it are late. -/
theorem classify_of_behind (h : (tag - t).toNat = 0 ∨ 32768 ≤ (tag - t).toNat) :
    classify .running (some t) lookAhead tag = .late := if_pos h

/-- A tag ahead of the newest one and beyond the look-ahead is stray. -/
theorem classify_of_beyond (far : lookAhead < (tag - t).toNat) (ahead : (tag - t).toNat < 32768) :
    classify .running (some t) lookAhead tag = .stray := by
  have not_behind : ¬ ((tag - t).toNat = 0 ∨ 32768 ≤ (tag - t).toNat) := by omega
  exact (if_neg not_behind).trans (if_neg far.not_ge)

/-- Where there is no newest tag, and within the look-ahead, whose range ends before the late half, a fragment parks. -/
theorem classify_of_parks (small : lookAhead ≤ 255)
    (h : newest = none ∨ ∃ t, newest = some t ∧ 1 ≤ (tag - t).toNat ∧ (tag - t).toNat ≤ lookAhead) :
    classify .running newest lookAhead tag = .park := by
  rcases h with rfl | ⟨t, rfl, ahead, near⟩
  · rfl
  · have not_behind : ¬ ((tag - t).toNat = 0 ∨ 32768 ≤ (tag - t).toNat) := by omega
    exact (if_neg not_behind).trans (if_pos near)

end

/-! ### The outcomes of the table (R44), and of a park (R46) -/

section

variable {s : State} {n : LinkNo} {frame : List Word} {urgent : Bool}

theorem State.grantUnmatched_of_park (h : classify s.runState s.newestTag s.general.lookAhead (frame.getD 1 0) = .park) :
    s.grantUnmatched n frame urgent = s.grantPark n frame urgent := by rw [grantUnmatched, h]

theorem State.grantUnmatched_of_late (h : classify s.runState s.newestTag s.general.lookAhead (frame.getD 1 0) = .late) :
    s.grantUnmatched n frame urgent = (s.lateAtLink n).dropHeld n := by rw [grantUnmatched, h]

theorem State.grantUnmatched_of_stray
    (h : classify s.runState s.newestTag s.general.lookAhead (frame.getD 1 0) = .stray) :
    s.grantUnmatched n frame urgent = (s.strayAtLink n).dropHeld n := by rw [grantUnmatched, h]

theorem State.grantPark_of_listFull (full : 16 ≤ s.orphans.length) :
    s.grantPark n frame urgent = ((s.strayAtLink n).bump (.part .parkRefusedListFull)).dropHeld n := if_pos full

theorem State.grantPark_of_storeFull (room : s.orphans.length < 16)
    (short : s.freeQueue.length < Spec.cellsOf (frame.length - 1)) :
    s.grantPark n frame urgent =
      (((s.strayAtLink n).bump (.part .parkRefusedStoreFull)).addError .storeExhausted).dropHeld n :=
  (if_neg room.not_ge).trans (if_pos short)

theorem State.grantPark_of_room (room : s.orphans.length < 16)
    (cells : Spec.cellsOf (frame.length - 1) ≤ s.freeQueue.length) :
    s.grantPark n frame urgent = s.startPark n frame urgent :=
  (if_neg room.not_ge).trans (if_neg cells.not_gt)

end

/-! ### The grant -/

/-- A granted frame whose tag no slot carries goes to the classification (R9, R43). -/
theorem exec_arbiterGrant_of_unmatched {s : State} {n : LinkNo} {frame : List Word} {rest : List (List Word)}
    (grants : Spec.grants s n frame rest) (alone : Spec.unmatched s (frame.getD 1 0)) (noticeFirst : Bool) :
    exec (.arbiterGrant noticeFirst) s =
      .next ((Spec.granted s n frame rest).grantUnmatched n frame (Spec.anyUrgent s)) := by
  have missed : (Spec.granted s n frame rest).slotOfTag (frame.getD 1 0) = none := (s.slotOfTag_none _).2 alone
  rw [exec_arbiterGrant_of_grants grants, State.grantFrame, missed]

/-- Settles O36: the grant is the classification of the frame, and a park meets the orphan list, then the free cells. -/
theorem unmatchedFragmentsAreParkedOrDropped : Obligations.UnmatchedFragmentsAreParkedOrDropped := by
  unfold Obligations.UnmatchedFragmentsAreParkedOrDropped
  intro s b n frame rest tag w v parks grants alone small
  have parked (running : s.runState = .running) (h : parks) :
      v.grantUnmatched n frame (Spec.anyUrgent s) = v.grantPark n frame (Spec.anyUrgent s) :=
    State.grantUnmatched_of_park (running ▸ classify_of_parks small h)
  rw [exec_arbiterGrant_of_unmatched grants alone]
  refine ⟨fun idle => ?_, fun t running newest behind => ?_, fun t running newest far ahead => ?_,
    fun running h full => ?_, fun running h room short => ?_, fun running h room cells => ?_⟩
  · rw [State.grantUnmatched_of_stray (s := v) (classify_of_not_running idle)]
    rfl
  · rw [State.grantUnmatched_of_late (s := v) (running ▸ newest ▸ classify_of_behind behind)]
    rfl
  · rw [State.grantUnmatched_of_stray (s := v) (running ▸ newest ▸ classify_of_beyond far ahead)]
    rfl
  · rw [parked running h, State.grantPark_of_listFull (s := v) full]
    rfl
  · rw [parked running h, State.grantPark_of_storeFull (s := v) room short]
    rfl
  · rw [parked running h, State.grantPark_of_room (s := v) room cells]
    rfl

end Sys2Proof.Machine
end

section
/-! THEOREMS. Clear counters, Clear errors and the pedestal commands (O59), with what adoption does to one pad. -/

namespace Sys2Proof.Machine

/-! ### Adoption (R153, R154) -/

/-- The pad an accumulator entry leaves behind: one with samples replaces the pedestal alone, one without changes nothing. -/
def Pad.adopt (p : Pad) (e : AccEntry) : Pad := if 0 < e.count then { p with pedestal := e.pedestal } else p

theorem Pad.adopt_of_samples {p : Pad} {e : AccEntry} (h : 0 < e.count) : p.adopt e = { p with pedestal := e.pedestal } :=
  if_pos h

theorem Pad.adopt_of_empty {p : Pad} {e : AccEntry} (h : ¬ 0 < e.count) : p.adopt e = p := if_neg h

/-- Adopting the entries of a canonical accumulator adopts each pad's own entry, for every address is listed once. -/
theorem read_adoptable {acc : Memory AccEntry} {pads : Memory Pad} {b : Nat}
    (once : Memory.wfFrom AccEntry.cold b acc = true) (wf : Memory.wf Pad.cold pads = true) (k : Nat) :
    Memory.read Pad.cold ((acc.filter (fun e => decide (e.2.count > 0))).foldl adoptPad pads) k =
      (Memory.read Pad.cold pads k).adopt (Memory.read AccEntry.cold acc k) := by
  induction acc generalizing pads b with
  | nil => rfl
  | cons head later ih =>
    obtain ⟨a, e⟩ := head
    simp only [Memory.wfFrom, Bool.and_eq_true] at once
    obtain ⟨-, once⟩ := once
    have later_keeps_head (p : Pad) : p.adopt (Memory.read AccEntry.cold later a) = p := by
      rw [Memory.read_below once (Nat.lt_succ_self a)]; rfl
    by_cases samples : 0 < e.count
    · have wf' : Memory.wf Pad.cold (adoptPad pads (a, e)) = true := Memory.wf_write _ _ wf
      rw [List.filter_cons_of_pos (by simpa using samples), List.foldl_cons, ih once wf', adoptPad,
        Memory.read_write _ _ _ wf, Memory.read]
      by_cases here : k = a
      · rw [here, if_pos rfl, if_pos rfl, later_keeps_head, Pad.adopt_of_samples samples]
      · rw [if_neg here, if_neg (Ne.symm here)]
    · rw [List.filter_cons_of_neg (by simpa using samples), ih once wf, Memory.read]
      by_cases here : k = a
      · rw [here, if_pos rfl, later_keeps_head, Pad.adopt_of_empty samples]
      · rw [if_neg (Ne.symm here)]

/-! ### The commands -/

section

variable {s : State} (q : Request)

/-- The run states in which Clear counters and Pedestal adopt are refused are those that shut the tables (R153, R186). -/
theorem not_tablesOpen_iff : ¬ Spec.tablesOpen s ↔ s.runState = .running ∨ s.runState = .draining := by
  cases h : s.runState <;> simp [h]

theorem State.runClearCounters_of_shut (shut : ¬ Spec.tablesOpen s) : s.runClearCounters q = s.refuse .badState :=
  if_pos (not_tablesOpen_iff.1 shut)

theorem State.runClearCounters_of_tablesOpen (tables : Spec.tablesOpen s) :
    s.runClearCounters q = { s with counters := [], lowMark := s.freeCount }.accept :=
  if_neg fun running => not_tablesOpen_iff.2 running tables

theorem State.runPedestalStart_of_refused (h : s.runState = .setup ∨ s.runState = .draining) :
    s.runPedestalStart q = s.refuse .badState := if_pos h

theorem State.runPedestalStart_of_taken (h : s.runState = .ready ∨ s.runState = .running) :
    s.runPedestalStart q = { s with acc := [], accState := .accumulating }.accept :=
  if_neg fun refused => by rcases h with h | h <;> simp [h] at refused

theorem State.runPedestalStop_of_idle (h : s.accState ≠ .accumulating) : s.runPedestalStop q = s.refuse .badState :=
  if_pos h

theorem State.runPedestalStop_of_accumulating (h : s.accState = .accumulating) :
    s.runPedestalStop q = { s with accState := .held }.accept := if_neg (not_not_intro h)

theorem State.runPedestalAdopt_of_refused (h : ¬ Spec.tablesOpen s ∨ s.accState ≠ .held) :
    s.runPedestalAdopt q = s.refuse .badState :=
  if_pos (or_assoc.1 (h.imp_left not_tablesOpen_iff.1))

theorem State.runPedestalAdopt_of_held (tables : Spec.tablesOpen s) (held : s.accState = .held) :
    s.runPedestalAdopt q =
      ⟨{ s with pads := s.adoptable.foldl adoptPad s.pads }, .done, [toWord s.adoptable.length]⟩ :=
  if_neg fun refused => (or_assoc.2 refused).elim (fun shut => not_tablesOpen_iff.2 shut tables) (· held)

end

/-- Settles O59: each command is the COMMAND of its verb, executed on the queue's rest in the run states and accumulator states
that admit it and refused in the others. -/
theorem clearAndPedestalCommands : Obligations.ClearAndPedestalCommands := by
  unfold Obligations.ClearAndPedestalCommands
  intro s number argument rest content u refused
  have clearCounters : exec .clearCounters s = .next (s.take (.command .clearCounters) State.runClearCounters) := rfl
  have clearErrors : exec .clearErrors s = .next (s.take (.command .clearErrors) State.runClearErrors) := rfl
  have start : exec .pedestalStart s = .next (s.take (.command .pedestalStart) State.runPedestalStart) := rfl
  have stop : exec .pedestalStop s = .next (s.take (.command .pedestalStop) State.runPedestalStop) := rfl
  have adopt : exec .pedestalAdopt s = .next (s.take (.command .pedestalAdopt) State.runPedestalAdopt) := rfl
  refine ⟨fun takes => ?_, fun takes => ?_, fun takes => ?_, fun takes => ?_, fun takes => ?_⟩
  · rw [clearCounters, State.take_command takes rfl rfl]
    refine ⟨fun shut => ?_, fun tables => ?_⟩
    · rw [State.runClearCounters_of_shut (s := u) _ shut]; rfl
    · rw [State.runClearCounters_of_tablesOpen (s := u) _ tables]; rfl
  · rw [clearErrors, State.take_command takes rfl rfl]; rfl
  · rw [start, State.take_command takes rfl rfl]
    refine ⟨fun shut => ?_, fun runs => ?_⟩
    · rw [State.runPedestalStart_of_refused (s := u) _ shut]; rfl
    · rw [State.runPedestalStart_of_taken (s := u) _ runs]; rfl
  · rw [stop, State.take_command takes rfl rfl]
    refine ⟨fun idle => ?_, fun accumulating => ?_⟩
    · rw [State.runPedestalStop_of_idle (s := u) _ idle]; rfl
    · rw [State.runPedestalStop_of_accumulating (s := u) _ accumulating]; rfl
  · rw [adopt, State.take_command takes rfl rfl]
    refine ⟨fun shut => ?_, fun tables held canonical => ?_⟩
    · rw [State.runPedestalAdopt_of_refused (s := u) _ shut]; rfl
    · obtain ⟨-, pads, -, acc⟩ := canonical
      rw [State.runPedestalAdopt_of_held (s := u) _ tables held]
      exact ⟨_, rfl, read_adoptable acc pads⟩

end Sys2Proof.Machine
end

section
/-! THEOREMS. READ (O51): a READ that passes the checks is served, and each space has the manual's layout (R176, R197, R198). -/

namespace Sys2Proof.Machine

/-! ### A READ that passes the checks (R174 to R176, R196) -/

/-- The kind of a request is the high byte of content word 0 (R196). -/
theorem requestKind_append (kind number : BitVec 8) (more : List Word) :
    requestKind ((kind ++ number) :: more) = kind.toNat := by
  rw [requestKind, List.getD_cons_zero, field, BitVec.toNat_append, Nat.shiftRight_or_distrib, Nat.shiftLeft_shiftRight,
    Nat.shiftRight_eq_zero _ _ number.isLt, Nat.or_zero, Nat.mod_eq_of_lt kind.isLt]

theorem Space.entries_of_ofWord {w : Word} {sp : Space} (h : Space.ofWord w = some sp) :
    sp.entries = Spec.spaceEntries w.toNat := by
  unfold Space.ofWord at h
  split at h <;> cases h <;> simp [entries, Spec.spaceEntries, *]

theorem State.mayTake_of_takes {s : State} {content : List Word} {rest : List (List Word)} (h : Spec.takes s content rest) :
    s.mayTake = true := by
  obtain ⟨-, idle, room⟩ := h
  simp [mayTake, idle, room, Config.replyCapacity]

section

variable {number : BitVec 8} {space index count : Word} {sp : Space}

theorem rowOf_readRequest : rowOf (Spec.readRequest number space index count) = .read := by
  rw [rowOf, Spec.readRequest, requestKind_append]
  rfl

theorem judge_readRequest (named : Space.ofWord space = some sp) (low : 1 ≤ count.toNat) (high : count.toNat ≤ 16)
    (within : index.toNat + count.toNat ≤ sp.entries) :
    judge (Spec.readRequest number space index count) = .pass (.read sp index.toNat count.toNat) := by
  have length : ¬ (count.toNat = 0 ∨ count.toNat > Config.maxEntries) := by rw [Config.maxEntries]; omega
  rw [judge, Spec.readRequest, requestKind_append]
  simp only [BitVec.toNat_ofNat, Nat.reducePow, Nat.reduceMod, List.drop_succ_cons, List.drop_zero, judgeRead, named]
  rw [if_neg length, if_neg (Nat.not_lt.2 within)]

/-- Run control serves a READ that passes the checks from the state as the request has left the queue. -/
theorem State.take_readRequest {s : State} {rest : List (List Word)}
    (h : Spec.takes s (Spec.readRequest number space index count) rest) (named : Space.ofWord space = some sp)
    (low : 1 ≤ count.toNat) (high : count.toNat ≤ 16) (within : index.toNat + count.toNat ≤ sp.entries) :
    s.take .read State.runRead =
      Spec.replied (Spec.taken s rest) (Spec.readRequest number space index count) .done
        ((Spec.taken s rest).readEntries sp index.toNat count.toNat) := by
  rw [s.take_passed _ _ h.1 (mayTake_of_takes h) rowOf_readRequest (judge_readRequest named low high within), Answer.finish,
    replyTo_eq]
  rfl

end

/-! ### Fields and wide values (R194) -/

theorem atBit_eq (n lo : Nat) : atBit n lo = 2 ^ lo * n := by
  rw [atBit, Nat.shiftLeft_eq, Nat.mul_comm]

theorem toWord_div_eq_extract {w : Nat} (x : BitVec w) (lo : Nat) : toWord (x.toNat / 2 ^ lo) = x.extractLsb' lo 16 := by
  rw [toWord, BitVec.extractLsb', Nat.shiftRight_eq_div_pow]

theorem wide32_toNat (t : Time) : wide32 t.toNat = [t.extractLsb' 16 16, t.extractLsb' 0 16] := by
  rw [← toWord_div_eq_extract, ← toWord_div_eq_extract, Nat.pow_zero, Nat.div_one]
  rfl

theorem wide48_eq (t : Stamp) : wide48 t = [t.extractLsb' 32 16, t.extractLsb' 16 16, t.extractLsb' 0 16] := by
  rw [← toWord_div_eq_extract, ← toWord_div_eq_extract, ← toWord_div_eq_extract, Nat.pow_zero, Nat.div_one]
  rfl

theorem flowCode_eq (f : Flow) : flowCode f = Spec.holdBit f := by cases f <;> rfl

/-! ### Link sets (R194) -/

/-- A sum of distinct powers of two below `2 ^ n` is below `2 ^ n`. -/
theorem sum_bits_lt {n : Nat} (q : Fin n → Bool) : ∑ i, flagAt (q i) i.val < 2 ^ n := by
  induction n with
  | zero => simp
  | succ n ih =>
    have low : ∑ i : Fin n, flagAt (q i.castSucc) i.val < 2 ^ n := ih fun i => q i.castSucc
    have top : flagAt (q (Fin.last n)) n ≤ 2 ^ n := by rw [flagAt]; split <;> simp
    rw [Fin.sum_univ_castSucc, Nat.pow_succ, Nat.mul_two]
    exact Nat.add_lt_add_of_lt_of_le low top

/-- The bits of a number below `2 ^ n` add up to the number. -/
theorem sum_testBit (x n : Nat) : ∑ i : Fin n, flagAt (x.testBit i.val) i.val = x % 2 ^ n := by
  induction n with
  | zero => simp [Nat.mod_one]
  | succ n ih =>
    have top : flagAt (x.testBit n) n = 2 ^ n * (x / 2 ^ n % 2) := by
      rw [flagAt, Nat.testBit_eq_decide_div_mod_eq]
      rcases Nat.mod_two_eq_zero_or_one (x / 2 ^ n) with h | h <;> simp [h]
    rw [Fin.sum_univ_castSucc, Nat.pow_succ, Nat.mod_mul, ← top, ← ih]
    rfl

theorem linkSetOf_toNat (q : LinkNo → Bool) : (linkSetOf q).toNat = ∑ n, flagAt (q n) n.val := by
  rw [linkSetOf, ← List.sum_eq_foldl, List.sum_ofFn, BitVec.toNat_ofNat, Nat.mod_eq_of_lt (sum_bits_lt q)]

/-- A link set is the set of its members. -/
theorem linkSetOf_getLsbD (ls : LinkSet) : linkSetOf (fun n => ls.getLsbD n.val) = ls :=
  BitVec.eq_of_toNat_eq <| by
    rw [linkSetOf_toNat, ← Nat.mod_eq_of_lt ls.isLt]
    exact sum_testBit ls.toNat 24

theorem sum_map_indices {n : Nat} (f : Fin n → Nat) : ((indices n).map f).sum = ∑ i, f i := by
  rw [indices, List.map_ofFn, List.sum_ofFn, Function.comp_id]

/-- The two words of the set of the links that meet a test are those the manual gives. -/
theorem linkSetWords_linkSetOf {q : LinkNo → Bool} {p : LinkNo → Prop} [DecidablePred p] (h : ∀ n, q n = true ↔ p n) :
    linkSetWords (linkSetOf q) = Spec.setWords p := by
  have same : (linkSetOf q).toNat = ((indices 24).map fun n => if p n then 2 ^ n.val else 0).sum := by
    rw [linkSetOf_toNat, sum_map_indices]
    simp only [flagAt, h]
  rw [linkSetWords, same]
  rfl

theorem linkSetWords_eq {ls : LinkSet} {p : LinkNo → Prop} [DecidablePred p]
    (h : ∀ n : LinkNo, ls.getLsbD n.val = true ↔ p n) :
    linkSetWords ls = Spec.setWords p := by
  rw [← linkSetOf_getLsbD ls]
  exact linkSetWords_linkSetOf h

/-! ### The writable spaces (R197) -/

theorem General.words_eq (g : General) : g.words = Spec.generalWords g := rfl

theorem ClassEntry.words_eq (c : ClassEntry) : c.words = Spec.classWords c := by
  have kind : toWord c.kind.code =
      BitVec.ofNat 16 (match c.kind with | .disabled => 0 | .physics => 1 | .calibration => 2 | .pedestal => 3) := by
    cases c.kind <;> rfl
  rw [words, kind, linkSetWords_eq (p := fun n => c.expected.getLsbD n.val = true) fun _ => Iff.rfl]
  rfl

theorem MapWindow.words_eq (w : MapWindow) : w.words = Spec.windowWords w := by
  have flags : flagAt w.valid 0 + atBit w.direction.code 1 =
      (if w.valid = true then 1 else 0) + (if w.direction = .descending then 2 else 0) := by
    cases w.valid <;> cases w.direction <;> rfl
  rw [words, flags]
  rfl

theorem Pad.words_eq (p : Pad) : p.words = Spec.padWords p := by
  rw [words, Spec.padWords]
  cases p.mode <;> rfl

/-! ### LINKS, STATUS and SLOTS (R94, R179, R198) -/

theorem State.linkWords_eq (s : State) (n : LinkNo) :
    s.linkWords n =
      [BitVec.ofInt 16 (s.offsets.get n),
        BitVec.ofNat 16 ((s.front.get n).rx.link.code + 4 * Spec.holdBit (s.front.get n).flow
          + 16 * (s.front.get n).notice.code),
        BitVec.ofNat 16 (s.front.get n).occupancy, BitVec.ofNat 16 (s.front.get n).waiting.length] := by
  rw [linkWords, flowCode_eq, atBit_eq, atBit_eq]
  rfl

/-- A running sum over the elements that meet a test. -/
theorem foldl_add_if {α : Type} (p : α → Prop) [DecidablePred p] (f : α → Nat) (l : List α) (start : Nat) :
    l.foldl (fun sum a => if p a then sum + f a else sum) start = start + ((l.filter (fun a => decide (p a))).map f).sum := by
  induction l generalizing start with
  | nil => rfl
  | cons a l ih =>
    rw [List.foldl_cons, ih, List.filter_cons]
    by_cases h : p a <;> simp [h, Nat.add_assoc]

/-- The eight links of a word of front link states are consecutive. -/
theorem indices_filter_group :
    ∀ g < 3,
      (indices 24).filter (fun n => decide (n.val / 8 = g)) = (List.range 8).map fun m => Fin.ofNat 24 (8 * g + m) := by
  decide

theorem State.linkStateWord_eq (s : State) {g : Nat} (h : g < 3) :
    s.linkStateWord g =
      BitVec.ofNat 16 (((List.range 8).map fun m => 4 ^ m * (s.front.get (Fin.ofNat 24 (8 * g + m))).rx.link.code).sum) := by
  rw [linkStateWord, foldl_add_if, indices_filter_group g h, Nat.zero_add, List.map_map, toWord]
  congr 2
  refine List.map_congr_left fun m small => ?_
  have place : (8 * g + m) % 24 % 8 = m := by have := List.mem_range.1 small; omega
  rw [Function.comp_apply, Fin.val_ofNat, place, atBit_eq, Nat.pow_mul]

theorem State.jobWord_eq (s : State) :
    s.jobWord =
      BitVec.ofNat 16
        (s.rotation.val
          + match s.job with
            | none => 0
            | some j => 32768 + 16384 * (if j.outcome = .park then 1 else 0) + 256 * j.requester.val) := by
  rw [jobWord]
  cases s.job with
  | none => rfl
  | some j =>
    have outcome : j.outcome.code = if j.outcome = .park then 1 else 0 := by cases j.outcome <;> rfl
    simp only [toWord, outcome, atBit_eq]
    congr 1
    omega

theorem State.statusFlags_eq (s : State) :
    s.runState.code + flagAt s.locked 2 + atBit s.accState.code 4 + atBit s.timing.link.code 8
        + atBit (flowCode s.timingFlow) 10 + flagAt s.newestTag.isSome 11 + atBit s.uplink.link.code 12
        + atBit (flowCode s.farmFlow) 14 =
      s.runState.code + (if s.locked = true then 4 else 0) + 16 * s.accState.code + 256 * s.timing.link.code
        + 1024 * Spec.holdBit s.timingFlow + (if s.newestTag ≠ none then 2048 else 0) + 4096 * s.uplink.link.code
        + 16384 * Spec.holdBit s.farmFlow := by
  simp only [flagAt, atBit_eq, flowCode_eq, Option.isSome_iff_ne_none, Nat.reducePow]

theorem State.statusWords_eq (s : State) : s.statusWords = Spec.statusEntry s := by
  have hold := linkSetWords_linkSetOf (q := fun n => (s.front.get n).flow == .hold) (p := fun n => (s.front.get n).flow = .hold)
    fun n => beq_iff_eq
  have errors : toWord s.errors.toNat = s.errors.setWidth 16 := BitVec.ofNat_toNat 16 s.errors
  rw [statusWords, statusFlags_eq, errors, hold, jobWord_eq, wide32_toNat, s.linkStateWord_eq (g := 0) (by decide),
    s.linkStateWord_eq (g := 1) (by decide), s.linkStateWord_eq (g := 2) (by decide), atBit_eq, atBit_eq]
  rfl

theorem State.expectedSet_getLsbD (s : State) (x : Slot) (n : LinkNo) :
    (s.expectedSet x).getLsbD n.val = true ↔ x.state ≠ .free ∧ (s.classes.get x.cls).expected.getLsbD n.val = true := by
  rw [expectedSet]
  split <;> simp [*]

theorem Slot.linksIn_words (x : Slot) (c : Contribution) :
    linkSetWords (x.linksIn c) = Spec.setWords fun n => x.contribs.get n = some c :=
  linkSetWords_linkSetOf fun _ => beq_iff_eq

theorem Slot.conditioningSet_words (x : Slot) :
    linkSetWords x.conditioningSet =
      Spec.setWords fun n => x.contribs.get n = some .conditioning ∨ x.extras.get n = some .conditioning :=
  linkSetWords_linkSetOf fun _ => by rw [Bool.or_eq_true, beq_iff_eq, beq_iff_eq]

theorem Slot.extraSet_words (x : Slot) :
    linkSetWords x.extraSet = Spec.setWords fun n => x.extras.get n = some .recorded :=
  linkSetWords_linkSetOf fun _ => beq_iff_eq

theorem Slot.cells_length (x : Slot) :
    x.cells.length = ((indices 24).map fun n => ((x.records.get n).map fun r => r.cells.length).getD 0).sum := by
  rw [cells, List.length_flatMap]
  congr 1
  refine List.map_congr_left fun n _ => ?_
  cases x.records.get n <;> rfl

theorem Slot.record_wordCount (x : Slot) (n : LinkNo) :
    (x.record n).wordCount = ((x.records.get n).map FragRecord.wordCount).getD 0 := by
  rw [record]
  cases x.records.get n <;> rfl

theorem State.slotWords_eq (s : State) (i : SlotNo) : s.slotWords i = Spec.slotEntry s i := by
  simp only [slotWords, linkSetWords_eq (s.expectedSet_getLsbD _), Slot.linksIn_words, Slot.conditioningSet_words,
    Slot.extraSet_words, Slot.cells_length, Slot.record_wordCount, wide48_eq, wide32_toNat, atBit_eq]
  simp only [Spec.slotEntry, wide32, toWord, Nat.reducePow, List.append_assoc, List.cons_append, List.nil_append]

/-! ### The ten spaces (R177) -/

/-- Settles O51: the READ is taken and served, and each entry has the layout of its space. -/
theorem readsReturnEntriesAsTheyStand : Obligations.ReadsReturnEntriesAsTheyStand := by
  unfold Obligations.ReadsReturnEntriesAsTheyStand
  refine ⟨?_, by decide, fun s => ?_⟩
  · intro s number space index count sp rest content takes named low high within
    have served : exec .read s = .next (s.take .read State.runRead) := rfl
    rw [served, State.take_readRequest takes named low high (Space.entries_of_ofWord named ▸ within)]
    rfl
  · simp only [State.entry, Fin.ofNat_val_eq_self, true_and]
    exact ⟨fun _ => rfl, s.linkWords_eq, General.words_eq _, fun _ => ClassEntry.words_eq _,
      fun _ => MapWindow.words_eq _, fun _ => Pad.words_eq _, fun _ => rfl, fun _ => rfl,
      s.statusWords_eq, s.slotWords_eq⟩

end Sys2Proof.Machine
end

section
/-! THEOREMS. Moves of the receivers: what an event on one lane does to its receiver keeps the receiver sound (R76 to R92) and
the flow state toward its card settled (R88). -/

namespace Sys2Proof.Machine

open Sys2Proof.Safety

/-- The flow state toward a card is the one R88 gives. -/
def FrontLink.Settled (f : FrontLink) : Prop := frontDecision f.occupancy f.flow = f.flow

/-- Every flow state toward a card is settled. -/
def FrontSettled (s : State) : Prop := ∀ n, (s.front.get n).Settled

/-- A move of the receivers: it leaves everything but the lanes alone, and every held frame; it keeps the receivers sound, and
the flow states toward the cards settled. -/
structure LineMove (s t : State) : Prop where
  held : ∀ n, (t.front.get n).held = (s.front.get n).held
  sound : ReceiversSound s → ReceiversSound t
  settled : ReceiversSound s → FrontSettled s → FrontSettled t
  frame : t = { s with front := t.front, timing := t.timing, uplink := t.uplink, timingDue := t.timingDue }

variable {s t u : State} {n : LinkNo} {l : Lane}

theorem LineMove.refl (s : State) : LineMove s s := ⟨fun _ => rfl, id, fun _ => id, rfl⟩

theorem LineMove.trans (first : LineMove s t) (second : LineMove t u) : LineMove s u where
  held n := (second.held n).trans (first.held n)
  sound h := second.sound (first.sound h)
  settled h k := second.settled (first.sound h) (first.settled h k)
  frame := by rw [second.frame, first.frame]

/-! ### One receiver replaced -/

/-- A front link replaced by one that is sound and settled where the old one was. -/
theorem LineMove.setFront {g : FrontLink} (held : g.held = (s.front.get n).held)
    (sound : FrontSound (s.front.get n) → FrontSound g)
    (settled : FrontSound (s.front.get n) → (s.front.get n).Settled → g.Settled) : LineMove s (s.setFront n g) where
  held m := by
    rw [State.setFront_front, Bank.get_set]
    split
    · next e => rw [e, held]
    · rfl
  sound h := by
    obtain ⟨front, rest⟩ := h
    refine ⟨fun m => ?_, rest⟩
    rw [State.setFront_front, Bank.get_set]
    split
    · exact sound (front n)
    · exact front m
  settled h k m := by
    rw [State.setFront_front, Bank.get_set]
    split
    · exact settled (h.1 n) (k n)
    · exact k m
  frame := rfl

/-- What a sound state asks of the timing link's receiver and of the uplink's: no BARRED, and a bounded frame. -/
def BoundedSound (limit : Nat) (r : Receiver) : Prop := ReceiverSound r ∧ r.link ≠ .barred ∧ r.words.length ≤ limit

theorem LineMove.setTiming {r : Receiver} (sound : BoundedSound 6 s.timing → BoundedSound 6 r) :
    LineMove s { s with timing := r } where
  held _ := rfl
  sound h := by
    obtain ⟨front, timing, uplink, notBarred, upNotBarred, words, upWords⟩ := h
    obtain ⟨timing, notBarred, words⟩ := sound ⟨timing, notBarred, words⟩
    exact ⟨front, timing, uplink, notBarred, upNotBarred, words, upWords⟩
  settled _ k := k
  frame := rfl

theorem LineMove.setUplink {r : Receiver} (sound : BoundedSound 512 s.uplink → BoundedSound 512 r) :
    LineMove s { s with uplink := r } where
  held _ := rfl
  sound h := by
    obtain ⟨front, timing, uplink, notBarred, upNotBarred, words, upWords⟩ := h
    obtain ⟨uplink, upNotBarred, upWords⟩ := sound ⟨uplink, upNotBarred, upWords⟩
    exact ⟨front, timing, uplink, notBarred, upNotBarred, words, upWords⟩
  settled _ k := k
  frame := rfl

/-- The words a receiver's frame in progress may hold (R58, R83, R165). -/
def wordLimit : Lane → Nat
  | .front _ => 4096
  | .timing => 6
  | .uplink => 512

/-- A receiver replaced by one with the same words: it enters neither BARRED nor LIVE, and no stall timer starts. -/
theorem LineMove.setRx {r : Receiver} (words : r.words = (s.rx l).words)
    (sound : ReceiverSound (s.rx l) → ReceiverSound r) (barred : r.link = .barred → (s.rx l).link = .barred)
    (live : r.link = .live → (s.rx l).link = .live) (stall : (s.rx l).stall = none → r.stall = none) :
    LineMove s (s.setRx l r) := by
  cases l with
  | front n =>
    have same : ({ s.front.get n with rx := r } : FrontLink).occupancy = (s.front.get n).occupancy := by
      rw [FrontLink.occupancy, FrontLink.occupancy, words]; rfl
    refine LineMove.setFront rfl (fun h => ?_) (fun _ k => ?_)
    · obtain ⟨rx, hold, room, waiting, held, inFrame, notice, pending⟩ := h
      exact ⟨sound rx, fun e => stall (hold e), same ▸ room, waiting, held, words ▸ inFrame, fun e => notice (live e),
        pending⟩
    · rw [FrontLink.Settled, same]; exact k
  | timing =>
    refine LineMove.setTiming fun h => ?_
    obtain ⟨rx, notBarred, inFrame⟩ := h
    exact ⟨sound rx, fun e => notBarred (barred e), words ▸ inFrame⟩
  | uplink =>
    refine LineMove.setUplink fun h => ?_
    obtain ⟨rx, notBarred, inFrame⟩ := h
    exact ⟨sound rx, fun e => notBarred (barred e), words ▸ inFrame⟩

/-! ### The flow decision -/

/-- A decision taken again is the same decision. -/
theorem frontDecision_idem (k : Nat) (f : Flow) : frontDecision k (frontDecision k f) = frontDecision k f := by
  rw [frontDecision, frontDecision]
  split_ifs <;> rfl

/-- The front link that a flow decision leaves. -/
def State.decided (s : State) (f : FrontLink) : FrontLink :=
  if frontDecision f.occupancy f.flow = f.flow then f
  else
    { f with
      flow := frontDecision f.occupancy f.flow, due := .changed
      rx := { f.rx with stall := s.stallAfterFlow f.rx (frontDecision f.occupancy f.flow) } }

theorem State.evalFront_eq (s : State) (n : LinkNo) : s.evalFront n = s.setFront n (s.decided (s.front.get n)) := by
  rw [evalFront, decided]
  dsimp only
  split
  · simp [State.setFront]
  · rfl

theorem State.decided_settled (s : State) (f : FrontLink) : (s.decided f).Settled := by
  rw [decided]
  split
  · next h => exact h
  · exact frontDecision_idem _ _

theorem State.decided_sound (s : State) {f : FrontLink} (h : FrontSound f) : FrontSound (s.decided f) := by
  rw [decided]
  split
  · exact h
  · obtain ⟨⟨quiet, inFrame, crc, errors, idles⟩, -, rest⟩ := h
    refine ⟨⟨quiet, fun e => ⟨(inFrame e).1, ?_⟩, crc, errors, idles⟩, fun e => ?_, rest⟩
    · exact if_neg fun both => e both.2
    · exact if_neg fun both => Flow.noConfusion (both.1.symm.trans e)

@[simp] theorem State.decided_held (s : State) (f : FrontLink) : (s.decided f).held = f.held := by
  rw [decided]; split <;> rfl

/-- A front link that changes and then meets its flow decision needs to be sound only. -/
theorem LineMove.decide {g : FrontLink} (held : g.held = (s.front.get n).held)
    (sound : FrontSound (s.front.get n) → FrontSound g) : LineMove s ((s.setFront n g).evalFront n) := by
  have settled : (s.setFront n g).evalFront n = s.setFront n (s.decided g) := by
    rw [State.evalFront_eq]; simp [State.setFront]; rfl
  rw [settled]
  exact LineMove.setFront ((s.decided_held g).trans held) (fun h => s.decided_sound (sound h)) fun _ _ => s.decided_settled g

/-! ### Frames -/

/-- A receiver whose frame in RECEIVING is given up. -/
theorem Receiver.left_sound {r : Receiver} (h : ReceiverSound r) (receiving : r.frame = .receiving) {next : FrameState} :
    ReceiverSound { r with frame := next, words := [], crc := crcStart, stall := none } := by
  obtain ⟨quiet, -, -, errors, idles⟩ := h
  have live : r.link = .live := by
    by_contra dark
    cases receiving.symm.trans (quiet dark)
  exact ⟨fun dark => absurd live dark, fun _ => ⟨rfl, rfl⟩, rfl, errors, idles⟩

/-- A frame that is given up keeps its front link sound, and takes its words out of the FIFO. -/
theorem FrontLink.left_sound {f : FrontLink} (h : FrontSound f) (receiving : f.rx.frame = .receiving) {next : FrameState} :
    FrontSound { f with rx := { f.rx with frame := next, words := [], crc := crcStart, stall := none } } := by
  obtain ⟨rx, -, room, waiting, held, -, notice, pending⟩ := h
  refine ⟨Receiver.left_sound rx receiving, fun _ => rfl, ?_, waiting, held, by simp, notice, pending⟩
  rw [FrontLink.occupancy] at room ⊢
  simp; omega

theorem LineMove.leaveFrame {next : FrameState} (receiving : (s.rx l).frame = .receiving) :
    LineMove s (s.leaveFrame l next) := by
  cases l with
  | front n =>
    rw [State.leaveFrame]
    dsimp only
    split
    · next empty =>
      refine LineMove.setFront rfl (fun h => FrontLink.left_sound h receiving) fun _ k => ?_
      have same : (s.front.get n).rx.words = [] := empty
      rw [FrontLink.Settled, FrontLink.occupancy, same] at k
      exact k
    · exact LineMove.decide rfl fun h => FrontLink.left_sound h receiving
  | timing =>
    rw [State.leaveFrame]
    refine (ite_self _).symm ▸ LineMove.setTiming fun h => ?_
    obtain ⟨rx, notBarred, -⟩ := h
    exact ⟨Receiver.left_sound rx receiving, notBarred, Nat.zero_le _⟩
  | uplink =>
    rw [State.leaveFrame]
    refine (ite_self _).symm ▸ LineMove.setUplink fun h => ?_
    obtain ⟨rx, notBarred, -⟩ := h
    exact ⟨Receiver.left_sound rx receiving, notBarred, Nat.zero_le _⟩

/-- A stall timer of a front link that has been started now stands while the link sends HOLD (R85). -/
theorem State.stallNow_of_hold (hold : (s.front.get n).flow = .hold) : s.stallNow (.front n) = none := by
  simp [stallNow, stallRuns, hold]

theorem Receiver.opened_sound {r : Receiver} (h : ReceiverSound r) (live : r.link = .live) (stall : Option Time) :
    ReceiverSound { r with frame := .receiving, words := [], crc := crcStart, stall := stall } := by
  obtain ⟨-, -, -, errors, idles⟩ := h
  exact ⟨fun dark => absurd live dark, fun e => absurd rfl e, rfl, errors, idles⟩

theorem LineMove.openFrame (live : (s.rx l).link = .live) (quiet : (s.rx l).frame ≠ .receiving) :
    LineMove s (s.openFrame l) := by
  cases l with
  | front n =>
    have empty (h : FrontSound (s.front.get n)) : (s.front.get n).rx.words = [] := (h.1.2.1 quiet).1
    refine LineMove.setFront rfl (fun h => ?_) fun h k => ?_
    · have words := empty h
      obtain ⟨rx, -, room, waiting, held, -, notice, pending⟩ := h
      refine ⟨Receiver.opened_sound rx live _, State.stallNow_of_hold, ?_, waiting, held, by simp, notice, pending⟩
      rw [FrontLink.occupancy, words] at room
      exact room
    · rw [FrontLink.Settled, FrontLink.occupancy, empty h] at k
      exact k
  | timing =>
    refine LineMove.setTiming fun h => ?_
    obtain ⟨rx, notBarred, -⟩ := h
    exact ⟨Receiver.opened_sound rx live _, notBarred, Nat.zero_le _⟩
  | uplink =>
    refine LineMove.setUplink fun h => ?_
    obtain ⟨rx, notBarred, -⟩ := h
    exact ⟨Receiver.opened_sound rx live _, notBarred, Nat.zero_le _⟩

/-- The running CRC takes the words before the last one (R81). -/
theorem Receiver.push_crc {r : Receiver} (h : r.crc = crcOf r.words.dropLast) (w : Word) :
    (r.push w).crc = crcOf r.words := by
  rw [push]
  dsimp only
  split
  · next none =>
    rw [List.getLast?_eq_none_iff] at none
    rw [h, none]; rfl
  · next v last =>
    have split := List.dropLast_append_getLast? v last
    rw [h, ← split, crcOf, crcOf, List.foldl_append, List.dropLast_concat]
    rfl

theorem Receiver.pushed_sound {r : Receiver} (h : ReceiverSound r) (receiving : r.frame = .receiving) (w : Word)
    (stall : Option Time) : ReceiverSound { r.push w with stall := stall } := by
  obtain ⟨quiet, -, crc, errors, idles⟩ := h
  refine ⟨quiet, fun e => absurd receiving e, ?_, errors, idles⟩
  rw [push]
  dsimp only
  rw [List.dropLast_concat]
  exact push_crc crc w

theorem LineMove.keepWord {w : Word} (receiving : (s.rx l).frame = .receiving) (short : (s.rx l).words.length < wordLimit l)
    (room : ∀ n, l = .front n → (s.front.get n).occupancy < 8192) : LineMove s (s.keepWord l w) := by
  have longer : ((s.rx l).push w).words.length = (s.rx l).words.length + 1 := by simp [Receiver.push]
  cases l with
  | front n =>
    refine LineMove.decide rfl fun h => ?_
    obtain ⟨rx, -, -, waiting, held, -, notice, pending⟩ := h
    refine ⟨Receiver.pushed_sound rx receiving w _, State.stallNow_of_hold, ?_, waiting, held, ?_, notice, pending⟩
    · have before := room n rfl
      rw [FrontLink.occupancy] at before ⊢
      simp only [State.rx_front] at longer ⊢
      omega
    · exact longer.trans_le short
  | timing =>
    refine LineMove.setTiming fun h => ?_
    obtain ⟨rx, notBarred, -⟩ := h
    exact ⟨Receiver.pushed_sound rx receiving w _, notBarred, longer.trans_le short⟩
  | uplink =>
    refine LineMove.setUplink fun h => ?_
    obtain ⟨rx, notBarred, -⟩ := h
    exact ⟨Receiver.pushed_sound rx receiving w _, notBarred, longer.trans_le short⟩

/-- The front link that a committed frame leaves: the frame is the last waiting one (R86). -/
def FrontLink.committed (f : FrontLink) : FrontLink :=
  { f with
    waiting := f.waiting ++ [f.rx.words]
    rx := { f.rx with frame := .outside, words := [], crc := crcStart, stall := none } }

/-- The words of a committed frame stay in the FIFO. -/
theorem FrontLink.committed_occupancy (f : FrontLink) : f.committed.occupancy = f.occupancy := by
  simp [committed, occupancy]; omega

theorem LineMove.commit (receiving : (s.front.get n).rx.frame = .receiving) (long : 4 ≤ (s.front.get n).rx.words.length) :
    LineMove s (s.setFront n (s.front.get n).committed) := by
  refine LineMove.setFront rfl (fun h => ?_) fun _ k => ?_
  · obtain ⟨rx, -, room, waiting, held, inFrame, notice, -⟩ := h
    refine ⟨Receiver.left_sound rx receiving, fun _ => rfl, (FrontLink.committed_occupancy _).trans_le room, ?_, held,
      by simp [FrontLink.committed],
      notice, fun _ => by simp [FrontLink.committed]⟩
    intro w mem
    rcases List.mem_append.1 mem with old | new
    · exact waiting w old
    · rw [List.mem_singleton.1 new]; exact ⟨long, inFrame⟩
  · rw [FrontLink.Settled, FrontLink.committed_occupancy]; exact k

/-! ### Link states and notices -/

/-- A change of what is due on a return lane, or of the notice that R92 admits, reaches no receiver. -/
theorem LineMove.setNotice {due : Due} {notice : NoticeState}
    (quiet : (s.front.get n).rx.link = .live → (s.front.get n).notice = .none → notice = .none)
    (pending : notice = .pending → (s.front.get n).notice = .pending ∨ (s.front.get n).waiting ≠ []) :
    LineMove s (s.setFront n { s.front.get n with due := due, notice := notice }) := by
  refine LineMove.setFront rfl (fun h => ?_) fun _ k => k
  obtain ⟨rx, hold, room, waiting, held, inFrame, notice, waits⟩ := h
  exact ⟨rx, hold, room, waiting, held, inFrame, fun live => quiet live (notice live),
    fun e => (pending e).elim waits id⟩

/-- Entry to LIVE (R76). -/
theorem Receiver.live_sound {r : Receiver} (h : ReceiverSound r) :
    ReceiverSound { r with link := .live, idleCount := 64, codeErrors := 0 } := by
  obtain ⟨quiet, inFrame, crc, -, -⟩ := h
  exact ⟨fun e => absurd rfl e, inFrame, crc, Nat.zero_lt_succ _, fun e => LinkState.noConfusion e⟩

theorem LineMove.enterLive : LineMove s (s.enterLive l) := by
  cases l with
  | front n =>
    have same : s.enterLive (.front n) =
        s.setFront n
          { s.front.get n with
            rx := { (s.front.get n).rx with link := .live, idleCount := 64, codeErrors := 0 }
            notice := .none, due := (s.front.get n).due.orAgain } := by
      simp [State.enterLive, State.setFront, Config.idlesToLive]
    rw [same]
    refine LineMove.setFront rfl (fun h => ?_) fun _ k => k
    obtain ⟨rx, hold, room, waiting, held, inFrame, -, -⟩ := h
    exact ⟨Receiver.live_sound rx, hold, room, waiting, held, inFrame, fun _ => rfl,
      fun e => NoticeState.noConfusion e⟩
  | timing =>
    have up : LineMove s { s with timing := { s.timing with link := .live, idleCount := 64, codeErrors := 0 } } :=
      LineMove.setTiming fun h => by
        obtain ⟨rx, -, inFrame⟩ := h
        exact ⟨Receiver.live_sound rx, fun e => LinkState.noConfusion e, inFrame⟩
    exact up.trans ⟨fun _ => rfl, id, fun _ => id, rfl⟩
  | uplink =>
    refine LineMove.setUplink fun h => ?_
    obtain ⟨rx, -, inFrame⟩ := h
    exact ⟨Receiver.live_sound rx, fun e => LinkState.noConfusion e, inFrame⟩

/-- Bar link takes the frame in progress and every waiting frame out of the FIFO (R90). -/
theorem LineMove.bar :
    LineMove s
      ((s.setFront n { s.front.get n with rx := (s.front.get n).rx.barred, waiting := [], notice := .delivered }).evalFront
        n) := by
  refine LineMove.decide rfl fun h => ?_
  obtain ⟨⟨-, -, -, -, -⟩, -, room, -, held, -, -, -⟩ := h
  refine ⟨⟨fun _ => rfl, fun _ => ⟨rfl, rfl⟩, rfl, Nat.zero_lt_succ _, fun e => LinkState.noConfusion e⟩, fun _ => rfl, ?_, by simp,
    held, by simp [Receiver.barred], fun e => LinkState.noConfusion e, fun e => NoticeState.noConfusion e⟩
  rw [FrontLink.occupancy] at room ⊢
  simp [Receiver.barred]; omega

/-- The loss of lock, or an Unbar link: DARK and OUTSIDE. A frame in RECEIVING has been given up before (R77, R91). -/
theorem Receiver.dark_sound {r : Receiver} (h : ReceiverSound r) (quiet : r.frame ≠ .receiving) {k : Nat} (few : k < 4) :
    ReceiverSound { r with link := .dark, codeErrors := k, frame := .outside } := by
  obtain ⟨-, inFrame, crc, -, -⟩ := h
  exact ⟨fun _ => rfl, fun _ => inFrame quiet, crc, few, fun e => LinkState.noConfusion e⟩

theorem LineMove.dark {k : Nat} (quiet : (s.rx l).frame ≠ .receiving) (few : k < 4) :
    LineMove s (s.setRx l { s.rx l with link := .dark, codeErrors := k, frame := .outside }) :=
  LineMove.setRx rfl (fun h => Receiver.dark_sound h quiet few) (fun e => LinkState.noConfusion e)
    (fun e => LinkState.noConfusion e) id

end Sys2Proof.Machine
end

section
/-! THEOREMS. What a step can do, said once: the moves an event is made of. A move carries what the machine has checked before
it, so that an invariant is proved by going through the moves. -/

namespace Sys2Proof.Machine

open Sys2Proof.Safety

/-- What has left one owner within an event and not yet reached the next: the link whose granted frame no job holds yet or any
more, the link whose last waiting frame has been granted and whose notice is still to be seen to, the raw copies, and the
cells. -/
structure Transit where
  link : Option LinkNo
  notice : Option LinkNo
  copies : List Orphan
  cells : List Nat

/-- Between events nothing is in transit. -/
def Transit.none : Transit := ⟨Option.none, Option.none, [], []⟩

/-- A front link whose oldest waiting frame is granted: the frame is held (R87). -/
def FrontLink.granting (f : FrontLink) (frame : List Word) (rest : List (List Word)) : FrontLink :=
  { f with waiting := rest, held := some frame }

/-- The links that a slot still takes a fragment of (R10, R49). -/
def Contribution.Wanted (c : Option Contribution) : Prop := c = some .awaited ∨ c = some .lost ∨ c = some .absent

/-- The adoption queue's entry of a raw copy (R50). -/
def Orphan.entry (o : Orphan) (i : SlotNo) (expected : Bool) : Adopted :=
  { link := o.link, tag := o.tag, slot := i, expected := expected, cells := o.cells, wordCount := o.wordCount }

/-- The cells of the copy that a job reads (R134). -/
def JobSource.cells : JobSource → List Nat
  | .fifo => []
  | .copy cells _ => cells

/-- The link whose held frame a job that ends leaves behind (R87). -/
def Job.heldLink (j : Job) : Option LinkNo :=
  match j.source with
  | .fifo => some j.link
  | .copy _ _ => Option.none

/-- What a warm reset leaves, up to the flow decision of the timing link. -/
def State.wiped (s : State) (e : Emitter) : State :=
  { s.emptied with front := s.front.map FrontLink.warm, timing := s.timing.warm, emitter := e }

/-- A warm reset, once the event frame in progress has been cut: the emitter keeps a reply frame (R170, R189). -/
def State.restarted (s : State) (e : Emitter) : State := (s.wiped e).evalTiming

/-- The moves. -/
inductive Move : Transit → State → Transit → State → Prop
  /-- Lanes, counters, causes, the record of what was sent, and the time. -/
  | line {g s t} : g.notice = Option.none → LineMove s t → Move g s g t
  | count {g s} (c : Counter) (k : Nat) : Move g s g (s.bumpBy c k)
  | setErrors {g s} (e : BitVec 15) : Move g s g { s with errors := e }
  | send {g s} (codes : List (Lane × LaneCode)) : Move g s g { s with out := s.out ++ codes }
  | rotate {g s} (r : Requester) : Move g s g { s with rotation := r }
  | clearCounters {g s} (low : Nat) : Move g s g { s with counters := [], lowMark := low }
  | setFarm {g s} (f : Flow) : Move g s g { s with farmFlow := f }
  | setTime {g s} (now : Time) : Move g s g { s with timebase := now }
  /-- Run control's queues. A reply is appended after the moves of its request. -/
  | enqueueRequest {g s} (content : List Word) :
      s.requests.length < 4 → Move g s g { s with requests := s.requests ++ [content] }
  | dequeueRequest {g s} (content : List Word) (rest : List (List Word)) :
      s.requests = content :: rest → Move g s g { s with requests := rest }
  | dropReplies {g s} (replies : List Reply) :
      replies.length ≤ s.replies.length → Move g s g { s with replies := replies }
  /-- Settings (R101, R106, R177, R178) and the pedestal accumulator (R147 to R154). -/
  | setGeneral {g s} (new : General) :
      GeneralInRange new → Spec.tablesOpen s → (s.locked = true → new.segment = s.general.segment) →
        Move g s g { s with general := new }
  | setOffset {g s} (n : LinkNo) (o : Int) :
      -64 ≤ o → o ≤ 63 → Move g s g { s with offsets := s.offsets.set n o }
  | setClass {g s} (k : ClassNo) (c : ClassEntry) :
      ClassInRange c → Spec.tablesOpen s → Move g s g { s with classes := s.classes.set k c }
  | setWindow {g s} (i : SlotNo) (w : MapWindow) :
      WindowInRange w → s.runState = .setup → Move g s g { s with windows := s.windows.set i w }
  | setRow {g s} (r : RowNo) (k : Nat) :
      k ≤ 192 → s.runState = .setup → Move g s g { s with rows := s.rows.set r k }
  | setPad {g s} (k : Nat) (p : Pad) :
      (PadInRange (Memory.read Pad.cold s.pads k) → PadInRange p) →
        Move g s g { s with pads := Memory.write Pad.cold s.pads k p }
  | startAcc {g s} :
      s.runState = .ready ∨ s.runState = .running → Move g s g { s with acc := [], accState := .accumulating }
  | holdAcc {g s} : s.accState = .accumulating → Move g s g { s with accState := .held }
  | addSamples {g s} (k : Nat) (raws : List Nat) :
      (∀ raw ∈ raws, raw ≤ 1023) →
        Move g s g
          { s with acc := Memory.write AccEntry.cold s.acc k ((Memory.read AccEntry.cold s.acc k).addAll raws) }
  /-- The run state (R181 to R184) and Warm reset (R189). -/
  | lock {g s} :
      s.runState = .setup → setupFailure s = Option.none → Move g s g { s with runState := .ready, locked := true }.evalTiming
  | start {g s} :
      s.runState = .ready → Move g s g { s with runState := .running, newestTag := Option.none, pendingSkipped := 0 }.evalTiming
  | stop {g s} : s.runState = .running → Move g s g { s with runState := .draining }.evalTiming
  | drained {s} :
      s.runState = .draining → s.drained = true → s.orphans = [] →
        Move .none s .none { s with runState := .ready }.evalTiming
  | restart {s} (e : Emitter) : e.frame ≠ .event → Move .none s .none (s.restarted e)
  /-- Trigger intake: a refusal counts, and an admission takes the orphans of its tag off the list (R65, R66). -/
  | skip {g s} : Move g s g { s with pendingSkipped := min 65535 (s.pendingSkipped + 1) }
  | opens {s} (t : Trigger) :
      s.runState = .running → s.slotOfTag t.tag = Option.none → s.fill < (s.classes.get t.cls).admission →
        Move .none s { Transit.none with copies := s.orphans.filter fun o => o.tag == t.tag }
          { s.openSlot t with orphans := s.orphans.filter fun o => !(o.tag == t.tag) }
  /-- The event table: closure, loss, extension, and the counts of what is dropped at a slot (R12, R13, R18, R23, R33). -/
  | close {g s} (i : SlotNo) (c : Cause) :
      (s.slots.get i).isOpen = true → c ≠ .none → Move g s g (s.closeSlot i c)
  | lose {g s} (i : SlotNo) (n : LinkNo) :
      (s.slots.get i).isOpen = true → (s.slots.get i).contribs.get n = some .awaited →
        Move g s g
          (s.setSlot i { s.slots.get i with contribs := (s.slots.get i).contribs.set n (some .lost) })
  | finish {g s} (i : SlotNo) :
      (s.slots.get i).state = .closing → (s.slots.get i).busy = false →
        Move g s g (s.setSlot i { s.slots.get i with state := .closed })
  | extend {g s} (i : SlotNo) : (s.slots.get i).state = .opened → Move g s g (s.extendSlot i)
  | late {g s} (i : SlotNo) :
      (s.slots.get i).state ≠ .free →
        Move g s g (s.setSlot i { s.slots.get i with late := min Config.dropMax ((s.slots.get i).late + 1) })
  | duplicate {g s} (i : SlotNo) :
      (s.slots.get i).state ≠ .free →
        Move g s g (s.setSlot i { s.slots.get i with duplicate := min Config.dropMax ((s.slots.get i).duplicate + 1) })
  /-- The emitter (R159 to R164, R25). -/
  | setEmitter {g s} (e : Emitter) :
      (e.frame = .event ↔ s.emitter.frame = .event) → Move g s g { s with emitter := e }
  | beginFrame {g s} (e : Emitter) :
      (s.slots.get s.get).state = .closed → e.frame = .event →
        Move g s g { s.setSlot s.get { s.slots.get s.get with state := .emitting } with emitter := e }
  | sendCell {g s} (n : LinkNo) (r : FragRecord) :
      s.emitter.frame = .event → (s.slots.get s.get).records.get n = some r →
        Move g s { g with cells := g.cells ++ r.cells.take 1 }
          (s.setSlot s.get
            { s.slots.get s.get with
              records := (s.slots.get s.get).records.set n (some { r with cells := r.cells.drop 1 }) })
  | freeSlot {g s} (e : Emitter) :
      s.emitter.frame = .event → e.frame ≠ .event → Move g s g { s with emitter := e }.freeSlotAtGet
  /-- The store (R135 to R144). -/
  | takeCells {g s} (k : Nat) : Move g s { g with cells := g.cells ++ s.freeQueue.take k } (s.takeCells k)
  | returnCells {g s} (back rest : List Nat) :
      g.cells = back ++ rest → Move g s { g with cells := rest } (s.returnCells back)
  | writeStore {g s} (l : List (Nat × Word)) : Move g s g { s with store := Memory.writeAll 0 s.store l }
  /-- The orphan list and the adoption queue (R45 to R53). -/
  | orphansLeave {g s} (gone keep : List Orphan) :
      keep.Sublist s.orphans → (gone ++ keep).Perm s.orphans →
        Move g s { g with cells := g.cells ++ gone.flatMap Orphan.cells } { s with orphans := keep }
  | park {g s} (o : Orphan) (rest : List Orphan) :
      g.copies = o :: rest → s.slotOfTag o.tag = Option.none →
        Move g s { g with copies := rest } { s with orphans := s.orphans ++ [o] }
  | adoptExpected {g s} (i : SlotNo) (o : Orphan) (rest : List Orphan) :
      g.copies = o :: rest → (s.slots.get i).isOpen = true → (s.slots.get i).tag = o.tag →
        Contribution.Wanted ((s.slots.get i).contribs.get o.link) →
        Move g s { g with copies := rest }
          { s.setSlot i { s.slots.get i with contribs := (s.slots.get i).contribs.set o.link (some .queued) } with
            adoption := s.adoption ++ [o.entry i true] }
  | adoptCandidate {g s} (i : SlotNo) (o : Orphan) (rest : List Orphan) :
      g.copies = o :: rest → (s.slots.get i).isOpen = true →
        Move g s { g with copies := rest } { s with adoption := s.adoption ++ [o.entry i false] }
  | dropCopy {g s} (o : Orphan) (rest : List Orphan) :
      g.copies = o :: rest → Move g s { g with copies := rest, cells := g.cells ++ o.cells } s
  | dropEntry {g s} (e : Adopted) (rest : List Adopted) :
      s.adoption = e :: rest →
        e.expected = false ∨ (s.slots.get e.slot).state = .free ∨ (s.slots.get e.slot).tag ≠ e.tag →
        Move g s { g with cells := g.cells ++ e.cells } { s with adoption := rest }
  /-- The grant of a front frame (R87, R92). -/
  | grant {g s} (n : LinkNo) (frame : List Word) (rest : List (List Word)) :
      g.link = Option.none → g.notice = Option.none → s.job = Option.none → (s.front.get n).waiting = frame :: rest →
        (s.front.get n).held = Option.none →
        Move g s { g with link := some n, notice := some n } (s.setFront n ((s.front.get n).granting frame rest))
  | noticed {g s} (n : LinkNo) :
      g.notice = some n → (s.front.get n).noticeDue →
        Move g s { g with notice := Option.none } (s.setFront n { s.front.get n with notice := .delivered })
  | unnoticed {g s} (n : LinkNo) :
      g.notice = some n → ¬ (s.front.get n).noticeDue → Move g s { g with notice := Option.none } s
  | release {g s} (n : LinkNo) :
      g.link = some n → s.job = Option.none → Move g s { g with link := Option.none } (s.dropHeld n)
  /-- Jobs (R10, R11, R46, R51, R113, R114). -/
  | startPark {g s} (j : Job) :
      g.link = some j.link → g.copies = [] → s.job = Option.none → s.runState = .running → s.orphans.length < 16 →
        j.source = .fifo → j.outcome = .park → j.cells = g.cells → chainFits j.cells j.wordCount →
        Move g s { g with link := Option.none, cells := [] } { s with job := some j }
  | startContribution {g s} (i : SlotNo) (n : LinkNo) (r : Requester) (tag : Tag) (urgent : Bool) (flags : FragFlags) :
      g.link = some n → s.job = Option.none → (s.slots.get i).isOpen = true →
        Contribution.Wanted ((s.slots.get i).contribs.get n) →
        Move g s { g with link := Option.none }
          { s.takeContribution i n with job := some (newJob r n .fifo i tag urgent flags) }
  | startExtra {g s} (i : SlotNo) (n : LinkNo) (r : Requester) (tag : Tag) (urgent : Bool) (flags : FragFlags) :
      g.link = some n → s.job = Option.none → (s.slots.get i).isOpen = true →
        (s.slots.get i).extras.get n = Option.none →
        Move g s { g with link := Option.none }
          { s.takeExtra i n with job := some (newJob r n .fifo i tag urgent flags) }
  | startExpected {g s} (e : Adopted) (rest : List Adopted) (r : Requester) (tag : Tag) (urgent : Bool) (flags : FragFlags) :
      s.adoption = e :: rest → s.job = Option.none → e.expected = true → (s.slots.get e.slot).state ≠ .free →
        Move g s g
          { s.takeContribution e.slot e.link with
            adoption := rest, job := some (newJob r e.link (.copy e.cells e.wordCount) e.slot tag urgent flags) }
  | startCandidate {g s} (e : Adopted) (rest : List Adopted) (r : Requester) (tag : Tag) (urgent : Bool) (flags : FragFlags) :
      s.adoption = e :: rest → s.job = Option.none → e.expected = false → (s.slots.get e.slot).isOpen = true →
        (s.slots.get e.slot).extras.get e.link = Option.none →
        Move g s g
          { s.takeExtra e.slot e.link with
            adoption := rest, job := some (newJob r e.link (.copy e.cells e.wordCount) e.slot tag urgent flags) }
  | advance {g s} (j k : Job) :
      s.job = some j → k.link = j.link → k.source = j.source → k.outcome = j.outcome → k.cells = j.cells ++ g.cells →
        (chainFits j.cells j.wordCount → chainFits k.cells k.wordCount) →
        Move g s { g with cells := [] } { s with job := some k }
  | endCondition {s} (j : Job) (i : SlotNo) :
      s.job = some j → j.outcome = .condition i →
        Move .none s
          { Transit.none with link := j.heldLink, cells := (s.slots.get i).displaced j.link ++ j.source.cells }
          { s.setSlot i ((s.slots.get i).attach j) with job := Option.none }
  | endPark {s} (j : Job) :
      s.job = some j → j.outcome = .park →
        Move .none s { Transit.none with link := some j.link, copies := [s.parkedCopy j] }
          { s with job := Option.none }

/-- A chain of moves. -/
def Reach (g : Transit) (s : State) (h : Transit) (t : State) : Prop :=
  Relation.ReflTransGen (fun p q : Transit × State => Move p.1 p.2 q.1 q.2) (g, s) (h, t)

/-- A chain of moves that takes everything to its place. -/
def Steps (s t : State) : Prop := Reach .none s .none t

theorem Reach.refl (g : Transit) (s : State) : Reach g s g s := Relation.ReflTransGen.refl

theorem Reach.trans {g h k : Transit} {s t u : State} (first : Reach g s h t) (second : Reach h t k u) : Reach g s k u :=
  Relation.ReflTransGen.trans first second

theorem Move.reach {g h : Transit} {s t : State} (m : Move g s h t) : Reach g s h t := Relation.ReflTransGen.single m

theorem Steps.refl (s : State) : Steps s s := Reach.refl _ _

theorem Steps.trans {s t u : State} (first : Steps s t) (second : Steps t u) : Steps s u := Reach.trans first second

/-- What every move keeps, a chain of moves keeps. -/
theorem Reach.keeps {P : Transit → State → Prop} (one : ∀ {g s h t}, Move g s h t → P g s → P h t) {g h : Transit}
    {s t : State} (r : Reach g s h t) (start : P g s) : P h t := by
  have chain : ∀ q : Transit × State, Relation.ReflTransGen (fun p q : Transit × State => Move p.1 p.2 q.1 q.2) (g, s) q →
      P q.1 q.2 := by
    intro q path
    induction path with
    | refl => exact start
    | tail _ last ih => exact one last ih
  exact chain (h, t) r

end Sys2Proof.Machine
end

section
/-! THEOREMS. Every operation is a chain of moves: the shared operations, the event table, the orphan list, the emitter. -/

namespace Sys2Proof.Machine

open Sys2Proof.Safety

variable {s t : State} {g : Transit}

/-! ### Counters, causes and codes -/

theorem State.bump_reach (g : Transit) (s : State) (c : Counter) : Reach g s g (s.bump c) := (Move.count c 1).reach

theorem State.addError_reach (g : Transit) (s : State) (e : ErrorCause) : Reach g s g (s.addError e) :=
  (Move.setErrors _).reach

theorem State.count_reach (g : Transit) (s : State) (c : Counter) (e : ErrorCause) :
    Reach g s g ((s.bump c).addError e) := (s.bump_reach g c).trans (addError_reach g _ e)

theorem State.bumpOption_reach (g : Transit) (s : State) (c : Option Counter) : Reach g s g (s.bumpOption c) := by
  cases c with
  | none => exact Reach.refl _ _
  | some c => exact s.bump_reach g c

theorem State.emit_reach (g : Transit) (s : State) (l : Lane) (c : LaneCode) : Reach g s g (s.emit l c) :=
  (Move.send [(l, c)]).reach

theorem State.strayAtLink_reach (g : Transit) (s : State) (n : LinkNo) : Reach g s g (s.strayAtLink n) :=
  s.count_reach g _ _

theorem State.lateAtLink_reach (g : Transit) (s : State) (n : LinkNo) : Reach g s g (s.lateAtLink n) :=
  s.count_reach g _ _

/-- Operations that are moves are moves when they are carried out one after another. -/
theorem State.foldl_reach {α : Type} {f : State → α → State} (one : ∀ t a, Reach g t g (f t a)) (l : List α) (s : State) :
    Reach g s g (l.foldl f s) := by
  induction l generalizing s with
  | nil => exact Reach.refl _ _
  | cons a rest ih => exact (one s a).trans (ih _)

/-! ### The event table -/

theorem State.allInCheck_reach (g : Transit) (s : State) (i : SlotNo) : Reach g s g (s.allInCheck i) := by
  rw [allInCheck]
  split
  · next h => exact (Move.close i .allIn h.1 (fun e => Cause.noConfusion e)).reach
  · exact Reach.refl _ _

theorem State.attachCheck_reach (g : Transit) (s : State) (i : SlotNo) : Reach g s g (s.attachCheck i) := by
  rw [attachCheck]
  split
  · next closing =>
    split
    · exact Reach.refl _ _
    · next idle => exact (Move.finish i closing (Bool.eq_false_iff.2 idle)).reach
  · exact s.allInCheck_reach g i

theorem State.noticeAtSlot_reach (g : Transit) (s : State) (n : LinkNo) (i : SlotNo) :
    Reach g s g (s.noticeAtSlot n i) := by
  rw [noticeAtSlot]
  split
  · next h => exact (Move.lose i n h.1 h.2).reach.trans (State.allInCheck_reach g _ i)
  · exact Reach.refl _ _

theorem State.lossNotice_reach (g : Transit) (s : State) (n : LinkNo) : Reach g s g (s.lossNotice n) :=
  State.foldl_reach (fun t i => t.noticeAtSlot_reach g n i) _ s

theorem State.flushSlot_reach (g : Transit) (s : State) (i : SlotNo) : Reach g s g (s.flushSlot i) := by
  rw [flushSlot]
  split
  · next h => exact (Move.close i .flush h (fun e => Cause.noConfusion e)).reach
  · exact Reach.refl _ _

theorem State.firstExpiry_reach (g : Transit) (s : State) (i : SlotNo) : Reach g s g (s.firstExpiry i) := by
  rw [firstExpiry]
  split
  · next h =>
    split
    · exact (Move.extend i h.1).reach
    · exact (Move.close i .firstDeadline ((Slot.isOpen_iff _).2 (.inl h.1)) (fun e => Cause.noConfusion e)).reach
  · exact Reach.refl _ _

theorem State.secondExpiry_reach (g : Transit) (s : State) (i : SlotNo) : Reach g s g (s.secondExpiry i) := by
  rw [secondExpiry]
  split
  · next h =>
    exact (Move.close i .secondDeadline ((Slot.isOpen_iff _).2 (.inr h.1)) (fun e => Cause.noConfusion e)).reach
  · exact Reach.refl _ _

theorem State.lateAtSlot_reach (g : Transit) {i : SlotNo} (filled : (s.slots.get i).state ≠ .free) (n : LinkNo) :
    Reach g s g (s.lateAtSlot i n) :=
  (Move.late i filled).reach.trans (count_reach g _ _ _)

theorem State.duplicateAtSlot_reach (g : Transit) {i : SlotNo} (filled : (s.slots.get i).state ≠ .free) (n : LinkNo) :
    Reach g s g (s.duplicateAtSlot i n) :=
  (Move.duplicate i filled).reach.trans (count_reach g _ _ _)

theorem Slot.filled_of_isOpen {x : Slot} (h : x.isOpen = true) : x.state ≠ .free := fun free => by
  rcases x.isOpen_iff.1 h with e | e <;> cases free.symm.trans e

/-! ### Copies and their cells -/

/-- Nothing but copies is in transit. -/
def Transit.carrying (copies : List Orphan) : Transit := { Transit.none with copies := copies }

/-- Nothing but cells is in transit. -/
def Transit.freeing (cells : List Nat) : Transit := { Transit.none with cells := cells }

/-- The cells in transit join the free cell queue. -/
theorem State.returnCells_reach (g : Transit) (s : State) : Reach g s { g with cells := [] } (s.returnCells g.cells) :=
  (Move.returnCells g.cells [] (List.append_nil _).symm).reach

/-- A copy is dropped, with the counts of the drop, and its cells return. -/
theorem State.dropCopy_reach {o : Orphan} {rest : List Orphan}
    (drop : Reach { Transit.carrying rest with cells := o.cells } s { Transit.carrying rest with cells := o.cells } t) :
    Reach (Transit.carrying (o :: rest)) s (Transit.carrying rest) (t.returnCells o.cells) :=
  ((Move.dropCopy (g := Transit.carrying (o :: rest)) o rest rfl).reach.trans drop).trans
    (State.returnCells_reach { Transit.carrying rest with cells := o.cells } t)

theorem State.adoptInto_reach {i : SlotNo} {o : Orphan} {rest : List Orphan} (opened : (s.slots.get i).isOpen = true)
    (tag : (s.slots.get i).tag = o.tag) :
    Reach (Transit.carrying (o :: rest)) s (Transit.carrying rest) (s.adoptInto i o) := by
  have expected (wanted : Contribution.Wanted ((s.slots.get i).contribs.get o.link)) :=
    (Move.adoptExpected (g := Transit.carrying (o :: rest)) i o rest rfl opened tag wanted).reach.trans
      (bump_reach (Transit.carrying rest) _ (.part .orphansAdopted))
  have duplicate := dropCopy_reach (rest := rest) (o := o) (duplicateAtSlot_reach _ (Slot.filled_of_isOpen opened) o.link)
  rw [adoptInto]
  dsimp only
  split
  · next h => exact expected (.inl h)
  · next h => exact expected (.inr (.inl h))
  · next h => exact expected (.inr (.inr h))
  iterate 4 exact duplicate
  exact (Move.adoptCandidate (g := Transit.carrying (o :: rest)) i o rest rfl opened).reach.trans (bump_reach _ _ _)

/-- Handing a copy over leaves the slot's state and its tag. -/
theorem State.adoptInto_slot (s : State) (i : SlotNo) (o : Orphan) (k : SlotNo) :
    ((s.adoptInto i o).slots.get k).state = (s.slots.get k).state
      ∧ ((s.adoptInto i o).slots.get k).tag = (s.slots.get k).tag := by
  have queued : ((s.setSlot i
      { s.slots.get i with contribs := (s.slots.get i).contribs.set o.link (some .queued) }).slots.get k).state =
      (s.slots.get k).state ∧ ((s.setSlot i
      { s.slots.get i with contribs := (s.slots.get i).contribs.set o.link (some .queued) }).slots.get k).tag =
      (s.slots.get k).tag := by
    rw [setSlot_slots, Bank.get_set]
    split
    · next e => subst e; exact ⟨rfl, rfl⟩
    · exact ⟨rfl, rfl⟩
  have duplicate : (((s.duplicateAtSlot i o.link).returnCells o.cells).slots.get k).state = (s.slots.get k).state
      ∧ (((s.duplicateAtSlot i o.link).returnCells o.cells).slots.get k).tag = (s.slots.get k).tag := by
    rw [returnCells_frame, duplicateAtSlot]
    dsimp only
    rw [addError_slots, bump_slots, setSlot_slots, Bank.get_set]
    split
    · next e => subst e; exact ⟨rfl, rfl⟩
    · exact ⟨rfl, rfl⟩
  rw [adoptInto]
  dsimp only
  split
  iterate 3 exact queued
  iterate 4 exact duplicate
  exact ⟨rfl, rfl⟩

theorem Slot.isOpen_congr {x y : Slot} (h : x.state = y.state) : x.isOpen = y.isOpen := by
  rw [Slot.isOpen, Slot.isOpen, h]

/-- Copies of a slot's tag are handed over to it, one after another. -/
theorem State.adoptEach_reach {i : SlotNo} (copies : List Orphan) (s : State) (opened : (s.slots.get i).isOpen = true)
    (tags : ∀ o ∈ copies, o.tag = (s.slots.get i).tag) :
    Reach (Transit.carrying copies) s .none (copies.foldl (fun (s : State) (o : Orphan) => s.adoptInto i o) s) := by
  induction copies generalizing s with
  | nil => exact Reach.refl _ _
  | cons o rest ih =>
    obtain ⟨state, tag⟩ := s.adoptInto_slot i o i
    refine (adoptInto_reach opened (tags o (List.mem_cons_self ..)).symm).trans (ih _ ?_ fun p later => ?_)
    · rw [Slot.isOpen_congr state]; exact opened
    · rw [tag]; exact tags p (List.mem_cons_of_mem _ later)

theorem State.handOver_reach {i : SlotNo} {o : Orphan} (filled : (s.slots.get i).state ≠ .free)
    (tag : (s.slots.get i).tag = o.tag) : Reach (Transit.carrying [o]) s .none (s.handOver i o) := by
  rw [handOver]
  refine (s.bump_reach _ (.link .parked o.link)).trans ?_
  split
  · next h => exact adoptInto_reach h tag
  · exact dropCopy_reach (lateAtSlot_reach (s := s.bump (.link .parked o.link)) _ filled o.link)

theorem State.placeCopy_reach (o : Orphan) (s : State) : Reach (Transit.carrying [o]) s .none (s.placeCopy o) := by
  rw [placeCopy]
  split
  · next i found =>
    obtain ⟨filled, tag⟩ := s.slotOfTag_some found
    exact handOver_reach filled tag
  · next missed =>
    split
    · exact dropCopy_reach (s.strayAtLink_reach _ o.link)
    · exact (Move.park (g := Transit.carrying [o]) o [] rfl missed).reach.trans (bump_reach _ _ _)

theorem State.parkJobEnd_steps (s : State) : Steps s s.parkJobEnd := by
  rw [parkJobEnd]
  split
  · exact Steps.refl _
  · next j job =>
    split
    · next park =>
      rw [endPark]
      have written : Steps s (s.writeChain j.cells 0 (s.sourceWords j)) := (Move.writeStore _).reach
      refine written.trans ?_
      refine (Move.endPark (s := s.writeChain j.cells 0 (s.sourceWords j)) j job park).reach.trans ?_
      exact (Move.release j.link rfl rfl).reach.trans (placeCopy_reach (s.parkedCopy j) _)
    · exact Steps.refl _

/-- A list with the first entry that meets a test put aside. -/
theorem perm_eraseP {α : Type} {p : α → Bool} {a : α} {l : List α} (h : l.find? p = some a) :
    (a :: l.eraseP p).Perm l := by
  obtain ⟨meets, before, after, rfl, fails⟩ := List.find?_eq_some_iff_append.1 h
  have keeps : ∀ b ∈ before, ¬ p b = true := fun b mem => by simpa using fails b mem
  rw [List.eraseP_append_right _ keeps, List.eraseP_cons_of_pos meets]
  exact List.perm_middle.symm

theorem State.orphanExpiry_steps (s : State) : Steps s s.orphanExpiry := by
  rw [orphanExpiry]
  split
  · exact Steps.refl _
  · next o found =>
    have leaves := (Move.orphansLeave (g := .none) [o] s.withoutOldestDue List.eraseP_sublist (perm_eraseP found)).reach
    have cells : [o].flatMap Orphan.cells = o.cells := List.append_nil _
    refine leaves.trans (((strayAtLink_reach _ _ o.link).trans (bump_reach _ _ (.part .orphansExpired))).trans ?_)
    have back := State.returnCells_reach { Transit.none with cells := [o].flatMap Orphan.cells }
      (({ s with orphans := s.withoutOldestDue }.strayAtLink o.link).bump (.part .orphansExpired))
    rw [cells] at back ⊢
    exact back

theorem State.dropOrphans_steps (s : State) (p : Orphan → Bool) : Steps s (s.dropOrphans p) := by
  have keep : (s.orphans.filter fun o => !p o).Sublist s.orphans := List.filter_sublist
  refine (Move.orphansLeave (g := .none) (s.orphans.filter p) _ keep (List.filter_append_perm p _)).reach.trans ?_
  refine (State.foldl_reach (fun t o => t.strayAtLink_reach _ o.link) (s.orphans.filter p) _).trans ?_
  exact State.returnCells_reach { Transit.none with cells := (s.orphans.filter p).flatMap Orphan.cells } _

/-! ### Trigger intake -/

theorem State.refuseTrigger_steps (s : State) (tag : Tag) (c : Counter) (e : ErrorCause) :
    Steps s (s.refuseTrigger tag c e) :=
  (Move.skip.reach.trans (dropOrphans_steps _ _)).trans (count_reach _ _ c e)

theorem State.openSlot_opened (s : State) (t : Trigger) : (s.openSlot t).slots.get s.put = s.openedSlot t := by
  rw [openSlot, evalTiming_frame]
  exact Bank.get_set_self _ _ _

theorem State.openSlot_orphans (s : State) (t : Trigger) : (s.openSlot t).orphans = s.orphans := by
  rw [openSlot, evalTiming_frame]
  rfl

theorem State.openTrigger_steps {m : Trigger} (running : s.runState = .running) (fresh : s.slotOfTag m.tag = none)
    (room : s.fill < (s.classes.get m.cls).admission) : Steps s (s.openTrigger m) := by
  rw [openTrigger, adoptAll, openSlot_orphans]
  refine Steps.trans ?_ ((State.allInCheck_reach _ _ s.put).trans (bump_reach _ _ _))
  refine (Move.opens m running fresh room).reach.trans (State.adoptEach_reach _ _ ?_ ?_)
  · rw [State.openSlot_opened]; rfl
  · intro o mem
    rw [State.openSlot_opened]
    exact beq_iff_eq.1 (List.mem_filter.1 mem).2

theorem State.receiveTrigger_steps (s : State) (m : Trigger) : Steps s (s.receiveTrigger m) := by
  rw [receiveTrigger]
  split_ifs with outside disabled duplicate level
  · exact s.bump_reach _ _
  · exact s.refuseTrigger_steps _ _ _
  · exact s.refuseTrigger_steps _ _ _
  · exact s.refuseTrigger_steps _ _ _
  · exact State.openTrigger_steps (not_not.1 outside) (by simpa using duplicate) (not_le.1 level)

/-! ### The emitter -/

/-- The event frame in progress ends, whichever code ends it, and the slot at get becomes FREE. -/
theorem State.endFrame_steps (sending : s.emitter.frame = .event) (c : LaneCode) :
    Steps s ({ s with emitter := Emitter.idle }.emit .uplink c).freeSlotAtGet :=
  (s.emit_reach _ .uplink c).trans
    (Move.freeSlot (s := s.emit .uplink c) Emitter.idle sending (fun e => FrameKind.noConfusion e)).reach

theorem State.eventFrameEnd_steps (s : State) : Steps s s.eventFrameEnd := by
  rw [eventFrameEnd]
  split
  · next may => exact ((State.endFrame_steps may.1 _).trans (bump_reach _ _ _)).trans (bumpOption_reach _ _ _)
  · exact Steps.refl _

theorem State.eventFrameStart_steps (s : State) : Steps s s.eventFrameStart := by
  rw [eventFrameStart]
  dsimp only
  split
  · next may =>
    exact (Move.beginFrame ⟨.event, false, .header 0, s.eventHeader _, crcStart⟩ may.2.2.1 rfl).reach.trans
      (emit_reach _ _ _ _)
  · exact Steps.refl _

theorem State.returnAt_steps {i : SlotNo} (sending : s.emitter.frame = .event) (here : i = s.get) (p : Position) :
    Steps s (s.returnAt i p) := by
  subst here
  unfold returnAt
  split
  · split
    · rw [returnFirstCell]
      split
      · exact Steps.refl _
      · next r record =>
        refine (Move.sendCell (g := .none) _ r sending record).reach.trans ?_
        exact State.returnCells_reach { Transit.none with cells := [] ++ r.cells.take 1 } _
    · exact Steps.refl _
  all_goals exact Steps.refl _

theorem State.eventFrameWordSent_steps (s : State) : Steps s s.eventFrameWordSent := by
  rw [eventFrameWordSent]
  split
  · next may =>
    split
    · next w _ =>
      have sent (e : Emitter) (event : e.frame = .event) :
          Steps s ({ s with emitter := e }.emit .uplink (.data w)) :=
        (Move.setEmitter e (by simp [event, may.1])).reach.trans (emit_reach _ _ .uplink (.data w))
      rw [sendEventWord]
      refine (sent _ ?_).trans (State.returnAt_steps ?_ ?_ _)
      exacts [may.1, may.1, rfl]
    · exact Steps.refl _
  · exact Steps.refl _

theorem State.atBoundary_idle (h : s.atBoundary = true) : s.emitter.frame = .none := by
  simp only [atBoundary, Bool.and_eq_true, beq_iff_eq] at h
  exact h.1

theorem State.replyFrameStart_steps (s : State) : Steps s s.replyFrameStart := by
  rw [replyFrameStart]
  split
  · next may =>
    refine (Move.setEmitter _ ?_).reach.trans (emit_reach _ _ _ _)
    simp [State.atBoundary_idle may.1]
  · exact Steps.refl _

theorem State.replyFrameEnd_steps (s : State) : Steps s s.replyFrameEnd := by
  rw [replyFrameEnd]
  split
  · next r rest reply queue =>
    have idle : Steps s { s with emitter := Emitter.idle } := (Move.setEmitter _ (by simp [reply, Emitter.idle])).reach
    have gone : Steps { s with emitter := Emitter.idle } { s with emitter := Emitter.idle, replies := rest } :=
      (Move.dropReplies rest (by simp [queue])).reach
    have sent : Steps { s with emitter := Emitter.idle, replies := rest }
        { s with emitter := Emitter.idle, replies := rest, out := s.out ++ r.codes } := (Move.send r.codes).reach
    exact ((idle.trans gone).trans sent).trans (bump_reach _ _ _)
  · exact Steps.refl _

theorem State.abandonFrame_steps (s : State) : Steps s s.abandonFrame := by
  rw [abandonFrame]
  split
  · exact Steps.refl _
  · next sending => exact (State.endFrame_steps sending _).trans (bump_reach _ _ _)
  · next reply => exact (Move.setEmitter _ (by simp [reply, Emitter.idle])).reach.trans (emit_reach _ _ _ _)

theorem State.uplinkLoss_steps (s : State) : Steps s s.uplinkLoss := by
  rw [uplinkLoss]
  have lost : Steps s (({ s with farmFlow := .go }.bump (.part .uplinkLosses)).addError .uplinkLost) :=
    (Move.setFarm .go).reach.trans (count_reach _ _ _ _)
  refine (lost.trans (abandonFrame_steps _)).trans ?_
  exact (Move.count (.part .repliesDropped) _).reach.trans (Move.dropReplies [] (Nat.zero_le _)).reach

theorem State.farmFlowLive_steps (s : State) (f : Flow) : Steps s (s.farmFlowLive f) := by
  rw [farmFlowLive]
  split
  · exact Steps.refl _
  · have held (e : Emitter) (same : e.frame = s.emitter.frame) : Steps s { s with farmFlow := f, emitter := e } :=
      (Move.setFarm f).reach.trans (Move.setEmitter (s := { s with farmFlow := f }) e (by rw [same])).reach
    have set := held { s.emitter with held := decide (s.emitter.frame = .event ∧ f = .hold) } rfl
    dsimp only
    split
    · exact set.trans (bump_reach _ _ _)
    · exact set

end Sys2Proof.Machine
end

section
/-! THEOREMS. Every operation is a chain of moves: the receivers and the conditioning unit. -/

namespace Sys2Proof.Machine

open Sys2Proof.Safety

variable {s t : State} {l : Lane} {n : LinkNo}

theorem LineMove.steps (h : LineMove s t) : Steps s t := (Move.line rfl h).reach

/-! ### Codes and frames -/

theorem State.sendFlow_steps (s : State) (l : Lane) (due : Due) (f : Flow) (holds : Counter) :
    Steps s (s.sendFlow l due f holds) := by
  rw [sendFlow]
  split
  · exact (s.emit_reach _ _ _).trans (bump_reach _ _ _)
  · exact s.emit_reach _ _ _

theorem State.wordBoundary_steps (s : State) (l : Lane) : Steps s (s.wordBoundary l) := by
  cases l with
  | front n =>
    rw [wordBoundary]
    split
    · exact Steps.refl _
    · have sent : LineMove s (s.setFront n { s.front.get n with due := .none, notice := (s.front.get n).notice }) :=
        LineMove.setNotice (fun _ e => e) Or.inl
      exact sent.steps.trans (sendFlow_steps _ _ _ _ _)
  | timing =>
    rw [wordBoundary]
    split
    · exact Steps.refl _
    · have sent : LineMove s { s with timingDue := .none } := ⟨fun _ => rfl, id, fun _ => id, rfl⟩
      exact sent.steps.trans (sendFlow_steps _ _ _ _ _)
  | uplink => exact Steps.refl _

/-- The code error count of a receiver may take any value below four. -/
theorem LineMove.setErrors {k : Nat} (few : k < 4) : LineMove s (s.setRx l { s.rx l with codeErrors := k }) :=
  LineMove.setRx rfl (fun h => ⟨h.1, h.2.1, h.2.2.1, few, h.2.2.2.2⟩) id id id

/-- The IDLE count of a receiver may take any value below 64. -/
theorem LineMove.setIdles {k : Nat} (few : k < 64) : LineMove s (s.setRx l { s.rx l with idleCount := k }) :=
  LineMove.setRx rfl (fun h => ⟨h.1, h.2.1, h.2.2.1, h.2.2.2.1, fun _ => few⟩) id id id

/-- A skip ends: the receiver is OUTSIDE (R78). -/
theorem LineMove.outside (quiet : (s.rx l).frame ≠ .receiving) : LineMove s (s.setRx l { s.rx l with frame := .outside }) :=
  LineMove.setRx rfl (fun h => ⟨fun _ => rfl, fun _ => h.2.1 quiet, h.2.2⟩) id id id

theorem State.lock_steps (s : State) (l : Lane) : Steps s (s.lock l) := by
  rw [lock]
  split
  · next dark =>
    have align : LineMove s (s.setRx l { s.rx l with link := .aligning, idleCount := 0 }) :=
      LineMove.setRx rfl
        (fun h => ⟨fun _ => h.1 (by rw [dark]; exact fun e => LinkState.noConfusion e), h.2.1, h.2.2.1, h.2.2.2.1,
          fun _ => Nat.zero_lt_succ _⟩)
        (fun e => LinkState.noConfusion e) (fun e => LinkState.noConfusion e) id
    exact align.steps
  · exact Steps.refl _

theorem State.idle_steps (s : State) (l : Lane) : Steps s (s.idle l) := by
  rw [idle]
  split
  · exact Steps.refl _
  · exact Steps.refl _
  · split
    · exact LineMove.enterLive.steps
    · next few => exact (LineMove.setIdles (not_le.1 few)).steps
  · exact (LineMove.setErrors (Nat.zero_lt_succ _)).steps

/-- A code is a chain of moves when what it does at a LIVE receiver is. -/
theorem State.onValidCode_steps {live : State → State} (lives : ∀ t : State, (t.rx l).link = .live → Steps t (live t))
    (s : State) : Steps s (s.onValidCode l live) := by
  rw [onValidCode]
  split
  · exact Steps.refl _
  · exact Steps.refl _
  · exact (LineMove.setIdles (Nat.zero_lt_succ _)).steps
  · next up =>
    refine (LineMove.setErrors (Nat.zero_lt_succ _)).steps.trans (lives _ ?_)
    rw [setRx_rx_self]
    exact up

/-- A frame given up leaves the link state of its receiver, and the frame state asked for. -/
theorem State.leaveFrame_rx (s : State) (l : Lane) (next : FrameState) :
    ((s.leaveFrame l next).rx l).link = (s.rx l).link ∧ ((s.leaveFrame l next).rx l).frame = next := by
  have set : ((s.setRx l { s.rx l with frame := next, words := [], crc := crcStart, stall := none }).rx l) =
      { s.rx l with frame := next, words := [], crc := crcStart, stall := none } := State.setRx_rx_self _ _ _
  rw [leaveFrame]
  dsimp only
  split
  · rw [set]; exact ⟨rfl, rfl⟩
  · cases l with
    | front n =>
      obtain ⟨_, _, same⟩ := (s.setRx (.front n) _).evalFront_front_self n
      rw [evalLane, rx_front, same]
      rw [rx_front] at set
      rw [set]
      exact ⟨rfl, rfl⟩
    | timing => exact ⟨rfl, rfl⟩
    | uplink => exact ⟨rfl, rfl⟩

theorem State.countMisplacedStart_steps (s : State) (l : Lane) : Steps s (s.countMisplacedStart l) := by
  cases l with
  | front n => exact s.count_reach _ _ _
  | timing => exact s.bump_reach _ _
  | uplink => exact s.count_reach _ _ _

theorem State.countUnframed_steps (s : State) (l : Lane) : Steps s (s.countUnframed l) := by
  cases l with
  | front n => exact s.bump_reach _ _
  | timing => exact Steps.refl _
  | uplink => exact s.bump_reach _ _

theorem State.countCut_steps (s : State) (l : Lane) : Steps s (s.countCut l) := by
  cases l with
  | front n => exact s.bump_reach _ _
  | timing => exact s.bump_reach _ _
  | uplink => exact s.count_reach _ _ _

theorem State.countFrameError_steps (s : State) (l : Lane) : Steps s (s.countFrameError l) := by
  cases l with
  | front n => exact s.count_reach _ _ _
  | timing => exact s.bump_reach _ _
  | uplink => exact s.count_reach _ _ _

theorem State.countCodeError_steps (s : State) (l : Lane) : Steps s (s.countCodeError l) := by
  cases l with
  | front n => exact s.bump_reach _ _
  | timing => exact Steps.refl _
  | uplink => exact s.bump_reach _ _

theorem State.stallOut_steps (s : State) (l : Lane) : Steps s (s.stallOut l) := by
  rw [stallOut]
  split
  · next due =>
    have receiving : (s.rx l).frame = .receiving := by
      simp only [stallDue, Bool.and_eq_true, beq_iff_eq] at due
      exact due.1
    exact (LineMove.leaveFrame receiving).steps.trans (countMisplacedStart_steps _ l)
  · exact Steps.refl _

theorem State.startLive_steps (up : (s.rx l).link = .live) : Steps s (s.startLive l) := by
  rw [startLive]
  split
  · next receiving =>
    obtain ⟨link, frame⟩ := s.leaveFrame_rx l .discarding
    have same : ((s.leaveFrame l .discarding).countMisplacedStart l).rx l = (s.leaveFrame l .discarding).rx l := by
      cases l <;> rfl
    refine ((LineMove.leaveFrame receiving).steps.trans (countMisplacedStart_steps _ l)).trans
      (LineMove.openFrame ?_ ?_).steps
    · rw [same, link, up]
    · rw [same, frame]; exact fun e => FrameState.noConfusion e
  · next quiet => exact (LineMove.openFrame up quiet).steps

theorem State.dataLive_steps (s : State) (l : Lane) (w : Word) : Steps s (s.dataLive l w) := by
  unfold dataLive
  split
  · exact s.countUnframed_steps l
  · exact Steps.refl _
  · next receiving =>
    have leaves := (LineMove.leaveFrame (next := .discarding) receiving).steps
    cases l with
    | front n =>
      dsimp only
      rw [frontWord]
      split_ifs with oversize overflow foreign
      · exact leaves.trans (count_reach _ _ _ _)
      · exact leaves.trans (count_reach _ _ _ _)
      · exact leaves.trans (bump_reach _ _ _)
      · refine (LineMove.keepWord receiving (Nat.lt_of_succ_le (not_lt.1 oversize)) fun m e => ?_).steps
        cases e
        exact Nat.lt_of_succ_le (not_lt.1 overflow)
    | timing =>
      dsimp only
      rw [timingWord]
      split
      · exact leaves.trans (bump_reach _ _ _)
      · next short =>
        exact (LineMove.keepWord receiving (Nat.lt_of_succ_le (not_lt.1 short)) fun m e => Lane.noConfusion e).steps
    | uplink =>
      dsimp only
      rw [requestWord]
      split
      · exact leaves.trans (count_reach _ _ _ _)
      · next short =>
        exact (LineMove.keepWord receiving (Nat.lt_of_succ_le (not_lt.1 short)) fun m e => Lane.noConfusion e).steps

theorem State.cutLive_steps (s : State) (l : Lane) : Steps s (s.cutLive l) := by
  rw [cutLive]
  split
  · exact s.countUnframed_steps l
  · next discarding =>
    exact (LineMove.outside (by rw [discarding]; exact fun e => FrameState.noConfusion e)).steps
  · next receiving => exact (LineMove.leaveFrame receiving).steps.trans (countCut_steps _ l)

theorem State.judgeFront_steps (receiving : (s.front.get n).rx.frame = .receiving) : Steps s (s.judgeFront n) := by
  have leaves : Steps s (s.leaveFrame (.front n) .outside) := (LineMove.leaveFrame (l := .front n) receiving).steps
  rw [judgeFront]
  dsimp only
  split_ifs with short bad idle
  · exact leaves.trans (count_reach _ _ _ _)
  · exact leaves.trans (count_reach _ _ _ _)
  · exact leaves.trans (bump_reach _ _ _)
  · exact (LineMove.commit receiving (not_lt.1 short)).steps.trans (bump_reach _ _ _)

theorem State.receiveRequest_steps (s : State) (content : List Word) : Steps s (s.receiveRequest content) := by
  rw [receiveRequest]
  split
  · next room => exact (Move.enqueueRequest content room).reach
  · exact s.count_reach _ _ _

theorem State.judgeRequest_steps (receiving : s.uplink.frame = .receiving) : Steps s s.judgeRequest := by
  have leaves : Steps s (s.leaveFrame .uplink .outside) := (LineMove.leaveFrame (l := .uplink) receiving).steps
  rw [judgeRequest]
  split_ifs
  · exact leaves.trans (count_reach _ _ _ _)
  · exact leaves.trans (count_reach _ _ _ _)
  · exact leaves.trans (receiveRequest_steps _ _)

theorem State.judgeTiming_steps (receiving : s.timing.frame = .receiving) : Steps s s.judgeTiming := by
  have leaves : Steps s (s.leaveFrame .timing .outside) := (LineMove.leaveFrame (l := .timing) receiving).steps
  rw [judgeTiming]
  split
  · exact leaves.trans (receiveTrigger_steps _ _)
  · exact leaves.trans (bump_reach _ _ _)

theorem State.endLive_steps (s : State) (l : Lane) : Steps s (s.endLive l) := by
  unfold endLive
  split
  · exact s.countUnframed_steps l
  · next discarding =>
    exact (LineMove.outside (by rw [discarding]; exact fun e => FrameState.noConfusion e)).steps
  · next receiving =>
    cases l with
    | front n => exact judgeFront_steps receiving
    | timing => exact judgeTiming_steps receiving
    | uplink => exact judgeRequest_steps receiving

/-! ### Code errors -/

theorem State.noticeAtLoss_steps (dark : (s.front.get n).rx.link ≠ .live) : Steps s (s.noticeAtLoss n) := by
  have set {notice : NoticeState} (ok : notice = .pending → (s.front.get n).waiting ≠ []) :
      Steps s (s.setFront n { s.front.get n with due := (s.front.get n).due, notice := notice }) :=
    (LineMove.setNotice (fun up => absurd up dark) fun e => .inr (ok e)).steps
  rw [noticeAtLoss]
  split
  · split
    · exact (set fun e => NoticeState.noConfusion e).trans (lossNotice_reach _ _ n)
    · next waits => exact set fun _ => by simpa using waits
  · exact Steps.refl _

theorem State.loseLock_steps (quiet : (s.rx l).frame ≠ .receiving) : Steps s (s.loseLock l) := by
  rw [loseLock]
  refine (LineMove.dark quiet (Nat.zero_lt_succ _)).steps.trans ?_
  cases l with
  | front n =>
    refine (count_reach _ _ _ _).trans (noticeAtLoss_steps ?_)
    simp
  | timing => exact count_reach _ _ _ _
  | uplink => exact uplinkLoss_steps _

/-- A code error at a LIVE receiver, up to the count: it is counted, and a frame in RECEIVING is discarded (R77, R82). -/
def State.errorSeen (s : State) (l : Lane) : State :=
  if (s.rx l).frame = .receiving then ((s.countCodeError l).leaveFrame l .discarding).countFrameError l
  else s.countCodeError l

theorem State.errorSeen_steps (s : State) (l : Lane) : Steps s (s.errorSeen l) := by
  have same : (s.countCodeError l).rx l = s.rx l := by cases l <;> simp [countCodeError]
  rw [errorSeen]
  refine Steps.trans (s.countCodeError_steps l) ?_
  split
  · next receiving => exact (LineMove.leaveFrame (by rw [same]; exact receiving)).steps.trans (countFrameError_steps _ l)
  · exact Steps.refl _

theorem State.errorSeen_frame (s : State) (l : Lane) : ((s.errorSeen l).rx l).frame ≠ .receiving := by
  have counted (t : State) : (t.countFrameError l).rx l = t.rx l := by
    cases l <;> simp [countFrameError, countFront, countTimingDiscard, countRequestCrc]
  have same : (s.countCodeError l).rx l = s.rx l := by cases l <;> simp [countCodeError]
  rw [errorSeen]
  split
  · rw [counted, (leaveFrame_rx _ l .discarding).2]; exact fun e => FrameState.noConfusion e
  · next quiet => rw [same]; exact quiet

theorem State.codeError_steps (s : State) (l : Lane) : Steps s (s.codeError l) := by
  rw [codeError]
  split
  · exact Steps.refl _
  · exact Steps.refl _
  · next aligning =>
    have fall : LineMove s (s.setRx l { s.rx l with link := .dark }) :=
      LineMove.setRx rfl
        (fun h => ⟨fun _ => h.1 (by rw [aligning]; exact fun e => LinkState.noConfusion e), h.2.1, h.2.2.1, h.2.2.2.1,
          fun e => LinkState.noConfusion e⟩)
        (fun e => LinkState.noConfusion e) (fun e => LinkState.noConfusion e) id
    exact fall.steps
  · rw [codeErrorLive]
    refine (s.errorSeen_steps l).trans ?_
    dsimp only
    split
    · exact loseLock_steps (s.errorSeen_frame l)
    · next few => exact (LineMove.setErrors (not_le.1 few)).steps

/-! ### The grant -/

/-- A job of a front frame begins, or the frame is dropped, and with it what is held (R10, R43, R44, R46). -/
theorem State.grantFrame_reach {notice : Option LinkNo} (free : s.job = none) (frame : List Word) (urgent : Bool) :
    Reach { Transit.none with link := some n, notice := notice } s { Transit.none with notice := notice }
      (s.grantFrame n frame urgent) := by
  have drop {t : State} (counted : Reach { Transit.none with link := some n, notice := notice } s
      { Transit.none with link := some n, notice := notice } t) (idle : t.job = none) :
      Reach { Transit.none with link := some n, notice := notice } s { Transit.none with notice := notice } (t.dropHeld n) :=
    counted.trans (Move.release n rfl idle).reach
  rw [grantFrame]
  split
  · next i found =>
    obtain ⟨filled, -⟩ := s.slotOfTag_some found
    rw [grantAtSlot]
    dsimp only
    rw [Slot.find]
    by_cases opened : (s.slots.get i).isOpen = true
    · have take (wanted : Contribution.Wanted ((s.slots.get i).contribs.get n)) :=
        (Move.startContribution (g := { Transit.none with link := some n, notice := notice }) i n n.castSucc (frame.getD 1 0)
          urgent (FragFlags.ofHeader (frame.getD 2 0) false) rfl free opened wanted).reach
      have duplicate := drop (duplicateAtSlot_reach _ filled n) free
      rw [opened]
      cases contribution : (s.slots.get i).contribs.get n with
      | some c =>
        cases c with
        | awaited => exact take (.inl contribution)
        | lost => exact take (.inr (.inl contribution))
        | absent => exact take (.inr (.inr contribution))
        | queued | conditioning | arrived | missing => exact duplicate
      | none =>
        cases extra : (s.slots.get i).extras.get n with
        | none => exact (Move.startExtra i n _ _ _ _ rfl free opened extra).reach
        | some e => exact duplicate
    · rw [Bool.eq_false_iff.2 opened]
      exact drop (lateAtSlot_reach _ filled n) free
  · rw [grantUnmatched]
    split
    · next parks =>
      have running : s.runState = .running := by
        by_contra stopped
        rw [classify_of_not_running stopped] at parks
        cases parks
      rw [grantPark]
      split_ifs with full short
      · exact drop ((strayAtLink_reach _ _ n).trans (bump_reach _ _ _)) free
      · exact drop ((strayAtLink_reach _ _ n).trans (count_reach _ _ _ _)) free
      · rw [startPark]
        refine (Move.takeCells (g := { Transit.none with link := some n, notice := notice })
          (cellsFor (frame.length - 1))).reach.trans (Move.startPark _ rfl rfl ?_ ?_ ?_ rfl rfl rfl ?_).reach
        · rw [takeCells_frame]; exact free
        · rw [takeCells_frame]; exact running
        · rw [takeCells_frame]; exact not_le.1 full
        · exact List.length_take_of_le (not_lt.1 short)
    · exact drop (lateAtLink_reach _ _ n) free
    · exact drop (strayAtLink_reach _ _ n) free

theorem State.grantNotice_reach (link : Option LinkNo) (s : State) (n : LinkNo) :
    Reach { Transit.none with link := link, notice := some n } s { Transit.none with link := link } (s.grantNotice n) := by
  rw [grantNotice]
  dsimp only
  split
  · next due => exact (Move.noticed n rfl due).reach.trans (lossNotice_reach _ _ n)
  · next quiet => exact (Move.unnoticed n rfl quiet).reach

theorem State.grantNotice_job (s : State) (n : LinkNo) : (s.grantNotice n).job = s.job := by
  rw [grantNotice]
  split
  · rw [lossNotice_frame]; rfl
  · rfl

theorem State.grantFront_steps (free : s.job = none) (idle : (s.front.get n).held = none) (noticeFirst : Bool) :
    Steps s (s.grantFront n noticeFirst) := by
  rw [grantFront]
  split
  · exact Steps.refl _
  · next frame rest waiting =>
    refine (Move.grant (g := .none) n frame rest rfl rfl free waiting idle).reach.trans ?_
    dsimp only
    split
    · refine (State.grantNotice_reach (some n) _ n).trans (State.grantFrame_reach (notice := none) ?_ frame _)
      rw [grantNotice_job]; exact free
    · refine (State.grantFrame_reach (notice := some n) ?_ frame _).trans (State.grantNotice_reach none _ n)
      exact free

theorem State.grantAdoption_steps (free : s.job = none) : Steps s s.grantAdoption := by
  rw [grantAdoption]
  split
  · exact Steps.refl _
  · next e rest queue =>
    have drop {t : State} (why : e.expected = false ∨ (s.slots.get e.slot).state = .free ∨ (s.slots.get e.slot).tag ≠ e.tag)
        (counted : Reach (Transit.freeing e.cells) { s with adoption := rest } (Transit.freeing e.cells) t) :
        Steps s (t.returnCells e.cells) :=
      ((Move.dropEntry (g := .none) e rest queue why).reach.trans counted).trans (t.returnCells_reach (Transit.freeing e.cells))
    dsimp only
    split
    · next there =>
      obtain ⟨filled, -⟩ := there
      rw [grantEntry]
      dsimp only
      rw [Slot.findAdopted]
      cases expected : e.expected with
      | true => exact (Move.startExpected e rest _ _ _ _ queue free expected filled).reach
      | false =>
        by_cases opened : (s.slots.get e.slot).isOpen = true
        · rw [opened]
          cases extra : (s.slots.get e.slot).extras.get e.link with
          | none => exact (Move.startCandidate e rest _ _ _ _ queue free expected opened extra).reach
          | some x =>
            exact drop (.inl expected) (duplicateAtSlot_reach (s := { s with adoption := rest }) _ filled e.link)
        · rw [Bool.eq_false_iff.2 opened]
          exact drop (.inl expected) (lateAtSlot_reach (s := { s with adoption := rest }) _ filled e.link)
    · next gone =>
      have why : (s.slots.get e.slot).state = .free ∨ (s.slots.get e.slot).tag ≠ e.tag := by
        by_contra there
        rw [not_or, not_not] at there
        exact gone there
      exact drop (.inr why) (lateAtLink_reach _ _ e.link)

/-- The arbiter's choice requests. -/
theorem State.requesting_of_chosen {r : Requester} (h : s.chosen = some r) : s.requesting r = true := by
  rw [chosen] at h
  split at h
  · next found =>
    cases h
    have both : (s.urgentRequester r && s.requesting r) = true :=
      List.find?_some (p := fun r => s.urgentRequester r && s.requesting r) found
    exact (Bool.and_eq_true_iff.1 both).2
  · exact List.find?_some h

theorem State.arbiterGrant_steps (s : State) (noticeFirst : Bool) : Steps s (s.arbiterGrant noticeFirst) := by
  rw [arbiterGrant]
  split
  · exact Steps.refl _
  · next free =>
    split
    · exact Steps.refl _
    · next r chosen =>
      have turned : Steps s { s with rotation := r } := (Move.rotate r).reach
      rw [grant]
      split
      · next front =>
        refine turned.trans (State.grantFront_steps (s := { s with rotation := r }) free ?_ noticeFirst)
        have requests := State.requesting_of_chosen chosen
        rw [requesting, dif_pos front, FrontLink.requests, Bool.and_eq_true] at requests
        exact Option.isNone_iff_eq_none.1 requests.2
      · exact turned.trans (State.grantAdoption_steps (s := { s with rotation := r }) free)

end Sys2Proof.Machine
end

section
/-! THEOREMS. Every operation is a chain of moves: bursts and the end of a conditioning job. -/

namespace Sys2Proof.Machine

open Sys2Proof.Safety

variable {s t u : State} {j k m : Job}

/-- What processing does to the state and to the job in progress: moves, with the cells in transit that the job's chain
gains. -/
structure Processed (s : State) (j : Job) (t : State) (k : Job) (gained : List Nat) : Prop where
  reach : ∀ cells, Reach (Transit.freeing cells) s (Transit.freeing (cells ++ gained)) t
  job : t.job = s.job
  link : k.link = j.link
  source : k.source = j.source
  outcome : k.outcome = j.outcome
  cells : k.cells = j.cells ++ gained
  fits : chainFits j.cells j.wordCount → chainFits k.cells k.wordCount

theorem Processed.trans {a b : List Nat} (first : Processed s j t k a) (second : Processed t k u m b) :
    Processed s j u m (a ++ b) where
  reach cells := (first.reach cells).trans (List.append_assoc cells a b ▸ second.reach (cells ++ a))
  job := second.job.trans first.job
  link := second.link.trans first.link
  source := second.source.trans first.source
  outcome := second.outcome.trans first.outcome
  cells := by rw [second.cells, first.cells, List.append_assoc]
  fits := second.fits ∘ first.fits

/-- Processing that takes no cells and leaves the job's link, source, outcome and chain. -/
theorem Processed.of_reach (r : ∀ cells, Reach (Transit.freeing cells) s (Transit.freeing cells) t) (job : t.job = s.job)
    (link : k.link = j.link) (source : k.source = j.source) (outcome : k.outcome = j.outcome) (cells : k.cells = j.cells)
    (words : k.wordCount = j.wordCount) : Processed s j t k [] where
  reach c := (List.append_nil c).symm ▸ r c
  job := job
  link := link
  source := source
  outcome := outcome
  cells := by rw [cells, List.append_nil]
  fits := by rw [cells, words]; exact id

theorem Processed.refl (s : State) (j : Job) : Processed s j s j [] :=
  .of_reach (fun _ => Reach.refl _ _) rfl rfl rfl rfl rfl rfl

theorem State.writePulse_processed (ws : List Word) (room : j.need ws.length ≤ s.freeCount) :
    Processed s j (s.writePulse j ws).1 (s.writePulse j ws).2 (s.freeQueue.take (j.need ws.length)) where
  reach cells := by
    have write (v : State) := (Move.writeStore (g := Transit.freeing (cells ++ s.freeQueue.take (j.need ws.length))) (s := v)
      (ws.zipIdx.map fun p =>
        (chainAddress (j.cells ++ s.freeQueue.take (j.need ws.length)) (j.wordCount + p.2), p.1))).reach
    rw [writePulse]
    dsimp only
    split
    · next none =>
      refine Reach.trans ?_ (write s)
      rw [none, List.take_zero, List.append_nil]
      exact Reach.refl _ _
    · exact (Move.takeCells (g := Transit.freeing cells) (j.need ws.length)).reach.trans (write _)
  job := by
    rw [writePulse]
    dsimp only
    rw [writeChain_frame]
    split
    · rfl
    · rw [takeCells_frame]
  link := rfl
  source := rfl
  outcome := rfl
  cells := rfl
  fits fit := by
    have more : cellsFor j.wordCount ≤ cellsFor (j.wordCount + ws.length) :=
      Nat.div_le_div_right (by omega)
    have taken : (s.freeQueue.take (j.need ws.length)).length = j.need ws.length := List.length_take_of_le room
    have whole : cellsFor (j.wordCount + ws.length) = (j.wordCount + ws.length + 63) / 64 := rfl
    have before : cellsFor j.wordCount = (j.wordCount + 63) / 64 := rfl
    have need : j.need ws.length = cellsFor (j.wordCount + ws.length) - cellsFor j.wordCount := rfl
    rw [chainFits] at fit ⊢
    rw [writePulse, Job.wrote]
    dsimp only
    rw [List.length_append, taken, fit]
    omega

theorem State.offerPulse_processed (s : State) (j : Job) (limit : Nat) (ws : List Word) :
    ∃ gained, Processed s j (s.offerPulse j limit ws).1 (s.offerPulse j limit ws).2 gained := by
  rw [offerPulse]
  split_ifs with above short
  · exact ⟨[], .of_reach (fun _ => s.bump_reach _ _) rfl rfl rfl rfl rfl rfl⟩
  · exact ⟨[], .of_reach (fun _ => (s.bump_reach _ _).trans (count_reach _ _ _ _)) rfl rfl rfl rfl rfl rfl⟩
  · exact ⟨_, s.writePulse_processed ws (not_lt.1 short)⟩

/-- Flags change nothing but the flags. -/
theorem Processed.clipped (s : State) (j : Job) (lost : Bool) : Processed s j s (j.clippedIf lost) [] :=
  .of_reach (fun _ => Reach.refl _ _) rfl rfl rfl rfl rfl rfl

theorem State.writePulses_processed (c : ClassEntry) (place : Place) (t : Treatment) (pulses : List (List Sample))
    (s : State) (j : Job) :
    ∃ gained, Processed s j (s.writePulses j c place t pulses).1 (s.writePulses j c place t pulses).2 gained := by
  induction pulses generalizing s j with
  | nil => exact ⟨[], .refl s j⟩
  | cons p rest ih =>
    rw [writePulses]
    dsimp only
    have clip := Processed.clipped s j (decide ((clipSamples c.driftWindow p).length < p.length))
    split
    · obtain ⟨gained, more⟩ := ih s (j.clippedIf (decide ((clipSamples c.driftWindow p).length < p.length)))
      exact ⟨_, clip.trans more⟩
    · next first more _ =>
      obtain ⟨a, offered⟩ := s.offerPulse_processed
        (j.clippedIf (decide ((clipSamples c.driftWindow p).length < p.length))) c.cellLimit
        (pulseFrom place t (decide ((clipSamples c.driftWindow p).length < p.length)) first more).words
      split
      · exact ⟨_, clip.trans offered⟩
      · obtain ⟨b, later⟩ := ih _ _
        exact ⟨_, (clip.trans offered).trans later⟩

theorem State.deliver_processed (s : State) (j : Job) (flat : Nat) {raws : List Nat} (small : ∀ raw ∈ raws, raw ≤ 1023) :
    Processed s j (s.deliver j flat raws).1 (s.deliver j flat raws).2 [] := by
  rw [deliver]
  split_ifs
  · exact .refl s j
  · exact .of_reach (fun _ => (Move.addSamples flat raws small).reach) rfl rfl rfl rfl rfl rfl
  · exact .refl s j
  · exact .of_reach (fun _ => s.bump_reach _ _) rfl rfl rfl rfl rfl rfl

/-- The raw samples of a burst are 10-bit values. -/
theorem readBurst_raws {ws : List Word} {b : Burst} (h : readBurst ws = some b) : ∀ raw ∈ b.raws, raw ≤ 1023 := by
  unfold readBurst at h
  split at h
  · dsimp only at h
    split at h
    · cases h
    · cases h
      intro raw mem
      obtain ⟨w, -, rfl⟩ := List.mem_map.1 mem
      exact Nat.le_of_lt_succ (Nat.mod_lt _ (Nat.zero_lt_succ _))
  · cases h

theorem State.nextBurst_processed (s : State) (j : Job) (i : SlotNo) :
    ∃ gained, Processed s j (s.nextBurst j i).1 (s.nextBurst j i).2 gained := by
  rw [nextBurst]
  split
  · exact ⟨[], .of_reach (fun _ => s.count_reach _ _ _) rfl rfl rfl rfl rfl rfl⟩
  · next b read =>
    have turned : Processed s j s { j with position := j.position + 3 + b.raws.length } [] :=
      .of_reach (fun _ => Reach.refl _ _) rfl rfl rfl rfl rfl rfl
    rw [processBurst]
    split
    · exact ⟨_, turned.trans (.of_reach (fun _ => s.bump_reach _ _) rfl rfl rfl rfl rfl rfl)⟩
    · next place _ =>
      rw [conditionBurst]
      dsimp only
      split
      · obtain ⟨gained, wrote⟩ := writePulses_processed (s.classes.get (s.slots.get i).cls) place _ _ _ _
        exact ⟨_, (turned.trans (s.deliver_processed _ place.flat (readBurst_raws read))).trans wrote⟩
      · obtain ⟨gained, wrote⟩ := writePulses_processed (s.classes.get (s.slots.get i).cls) place _ _ _ _
        exact ⟨_, turned.trans wrote⟩

theorem State.burstProcessing_steps (s : State) : Steps s s.burstProcessing := by
  rw [burstProcessing]
  split
  · exact Steps.refl _
  · next j job =>
    split
    · exact Steps.refl _
    · next i _ =>
      split
      · exact Steps.refl _
      · obtain ⟨gained, done⟩ := s.nextBurst_processed j i
        exact (done.reach []).trans
          (Move.advance j _ (done.job.trans job) done.link done.source done.outcome done.cells done.fits).reach

/-- The source of a job that has ended leaves, and with it what was in transit. -/
theorem State.removeSource_reach (free : s.job = none) (j : Job) :
    Reach { Transit.none with link := j.heldLink, cells := j.source.cells } s .none (s.removeSource j) := by
  rw [removeSource, Job.heldLink]
  cases j.source with
  | fifo => exact (Move.release (g := { Transit.none with link := some j.link }) j.link rfl free).reach
  | copy cells _ => exact s.returnCells_reach (Transit.freeing cells)

theorem State.conditioningJobEnd_steps (s : State) : Steps s s.conditioningJobEnd := by
  rw [conditioningJobEnd]
  split
  · exact Steps.refl _
  · next j job =>
    split
    · exact Steps.refl _
    · next i outcome =>
      split
      · rw [endCondition]
        dsimp only
        refine (Move.endCondition j i job outcome).reach.trans ?_
        refine (Move.returnCells _ _ rfl).reach.trans ?_
        refine (attachCheck_reach _ _ i).trans ((removeSource_reach ?_ j).trans (bump_reach _ _ _))
        rw [attachCheck_frame, returnCells_frame]
      · exact Steps.refl _

end Sys2Proof.Machine
end

section
/-! THEOREMS. Every operation is a chain of moves: run control, the end of a microsecond, and every command. -/

namespace Sys2Proof.Machine

open Sys2Proof.Safety

variable {s t : State} {n : LinkNo}

/-! ### Written fields and written entries -/

/-- A written field is at least the lower end of its range. -/
theorem le_clampNat {lo hi : Nat} (h : lo ≤ hi) (w : Word) : lo ≤ (clampNat lo hi w).value := by
  rw [clampNat]
  split_ifs with low high
  · exact le_rfl
  · exact h
  · exact not_lt.1 low

theorem generalOf_inRange (e : List Word) : GeneralInRange (generalOf e).value := by
  refine ⟨?_, ?_, ?_, ?_, ?_, ?_, ?_, ?_, ?_, ?_, ?_, ?_⟩
  all_goals first | exact clampNat_le (by decide) _ | exact le_clampNat (by decide) _

theorem classOf_inRange (e : List Word) : ClassInRange (classOf e).value := by
  refine ⟨?_, ?_, ?_, ?_, ?_, ?_, ?_, ?_, ?_, ?_, ?_, ?_, ?_, ?_, ?_⟩
  all_goals first | exact clampNat_le (by decide) _ | exact le_clampNat (by decide) _

theorem windowOf_inRange (e : List Word) : WindowInRange (windowOf e).value :=
  ⟨clampNat_le (by decide) _, le_clampNat (by decide) _, clampNat_le (by decide) _, clampNat_le (by decide) _⟩

theorem padOf_inRange (e : List Word) : PadInRange (padOf e).value :=
  ⟨clampNat_le (by decide) _, clampNat_le (by decide) _, clampNat_le (by decide) _⟩

theorem offsetOf_inRange (e : List Word) : -64 ≤ (offsetOf e).value ∧ (offsetOf e).value ≤ 63 := by
  rw [offsetOf, clampInt]
  split_ifs <;> constructor <;> simp_all

/-- Entries written one after another are moves when the writing of one is, in the run states that allow it. -/
theorem State.writeEach_steps {store : State → Nat → List Word → State × Bool} {may : RunState → Prop}
    (one : ∀ (t : State) i e, may t.runState → Steps t (store t i e).1 ∧ (store t i e).1.runState = t.runState)
    (size index : Nat) (entries : List Word) (count : Nat) (open_ : may s.runState) :
    Steps s (writeEach store size index entries count s).1
      ∧ (writeEach store size index entries count s).1.runState = s.runState := by
  induction count with
  | zero => exact ⟨Steps.refl _, rfl⟩
  | succ count ih =>
    obtain ⟨steps, run⟩ := ih
    obtain ⟨last, same⟩ := one (writeEach store size index entries count s).1 (index + count)
      (entryWords size count entries) (run ▸ open_)
    exact ⟨steps.trans last, same.trans run⟩

theorem State.tablesOpen_of_writable (h : s.tablesWritable = true) : Spec.tablesOpen s := by
  simpa [tablesWritable] using h

theorem State.runWrite_steps (s : State) (q : Request) : Steps s (s.runWrite q).state := by
  unfold runWrite
  split
  · next sp index count entries =>
    split
    · exact Steps.refl _
    · next writable =>
      have opened : s.runState = .setup ∨ s.runState = .ready :=
        tablesOpen_of_writable (s := s) (by simpa using writable)
      split
      · exact (writeEach_steps (store := State.storeOffset) (may := fun r => r = .setup ∨ r = .ready) (fun t i e _ =>
          ⟨(Move.setOffset _ _ (offsetOf_inRange e).1 (offsetOf_inRange e).2).reach, rfl⟩) _ _ _ _ opened).1
      · exact (writeEach_steps (store := State.storeClass) (may := fun r => r = .setup ∨ r = .ready) (fun t i e may =>
          ⟨(Move.setClass _ _ (classOf_inRange e) may).reach, rfl⟩) _ _ _ _ opened).1
      · exact (writeEach_steps (store := State.storePad) (may := fun r => r = .setup ∨ r = .ready) (fun t i e _ =>
          ⟨(Move.setPad _ _ fun _ => padOf_inRange e).reach, rfl⟩) _ _ _ _ opened).1
      all_goals exact Steps.refl _
  all_goals exact Steps.refl _

/-- A WRITE to GENERAL that passes the checks writes its one entry (R177). -/
theorem judge_writeGeneral {content : List Word} {q : Request} (row : rowOf content = .writeGeneral)
    (pass : judge content = .pass q) : ∃ entries, entries.length = 8 ∧ q = .write .general 0 1 entries := by
  have kind : requestKind content = 2 := by
    rw [rowOf] at row
    split at row
    · cases row
    · assumption
    · rw [commandRow] at row
      split at row <;> cases row
    · cases row
  rw [rowOf, kind] at row
  rw [judge, kind] at pass
  replace row : writeRow content = .writeGeneral := row
  replace pass : judgeWrite (content.drop 1) = .pass q := pass
  cases content with
  | nil => cases pass
  | cons first rest =>
    cases rest with
    | nil => cases pass
    | cons space rest =>
      have zero : space.toNat = 0 := by
        rw [writeRow] at row
        split at row
        · next e => exact Option.some.inj e
        all_goals cases row
      have named : Space.ofWord space = some .general := by rw [Space.ofWord, zero]; rfl
      replace pass : judgeWrite (space :: rest) = .pass q := pass
      unfold judgeWrite at pass
      split at pass
      · next sp index count entries same =>
        obtain ⟨rfl, rfl⟩ := List.cons.inj same
        rw [named] at pass
        dsimp only [Space.writeSize] at pass
        split_ifs at pass with amount size within
        obtain rfl := Verdict.pass.inj pass
        have only : Space.general.entries = 1 := rfl
        have one : count.toNat = 1 := by omega
        have start : index.toNat = 0 := by omega
        rw [one] at size ⊢
        rw [start]
        exact ⟨entries, by omega, rfl⟩
      · cases pass

theorem State.runWriteGeneral_steps {entries : List Word} (length : entries.length = 8) :
    Steps s (s.runWriteGeneral (.write .general 0 1 entries)).state := by
  have whole : entryWords 8 0 entries = entries := by
    rw [entryWords, Nat.zero_mul, List.drop_zero, ← length, List.take_length]
  rw [runWriteGeneral]
  split_ifs with locked writable
  · exact Steps.refl _
  · exact Steps.refl _
  · refine (Move.setGeneral _ (generalOf_inRange _) (tablesOpen_of_writable (by simpa using writable)) ?_).reach
    intro held
    rw [whole]
    by_contra changed
    exact locked ⟨held, changed⟩

theorem State.runWriteWindows_steps (s : State) (q : Request) : Steps s (s.runWriteWindows q).state := by
  unfold runWriteWindows
  split
  · split
    · exact Steps.refl _
    · next inSetup =>
      exact (writeEach_steps (store := State.storeWindow) (may := fun r => r = .setup)
        (fun t i e may => ⟨(Move.setWindow _ _ (windowOf_inRange e) may).reach, rfl⟩) _ _ _ _ (not_not.1 inSetup)).1
  all_goals exact Steps.refl _

theorem State.runWriteRows_steps (s : State) (q : Request) : Steps s (s.runWriteRows q).state := by
  unfold runWriteRows
  split
  · split
    · exact Steps.refl _
    · next inSetup =>
      exact (writeEach_steps (store := State.storeRow) (may := fun r => r = .setup)
        (fun t i e may => ⟨(Move.setRow _ _ (clampNat_le (by decide) _) may).reach, rfl⟩) _ _ _ _ (not_not.1 inSetup)).1
  all_goals exact Steps.refl _

/-! ### The run state machine -/

theorem State.runSetupDone_steps (s : State) (q : Request) : Steps s (s.runSetupDone q).state := by
  rw [runSetupDone]
  split
  · exact Steps.refl _
  · next inSetup =>
    split
    · exact Steps.refl _
    · next passes => exact (Move.lock (not_not.1 inSetup) passes).reach

theorem State.runStart_steps (s : State) (q : Request) : Steps s (s.runStart q).state := by
  rw [runStart]
  split
  · exact Steps.refl _
  · next ready => exact (Move.start (not_not.1 ready)).reach

theorem State.completeDrain_steps (draining : s.runState = .draining) (idle : s.drained = true) :
    Steps s s.completeDrain := by
  have gone : (s.dropOrphans fun _ => true).orphans = [] := by
    rw [dropOrphans_frame]
    exact List.filter_eq_nil_iff.2 fun _ _ e => Bool.noConfusion e
  refine (s.dropOrphans_steps _).trans (Move.drained ?_ ?_ gone).reach
  · rw [dropOrphans_frame]; exact draining
  · rw [dropOrphans_frame]; exact idle

theorem State.testDrain_steps (s : State) : Steps s s.testDrain := by
  rw [testDrain]
  split
  · next h => exact completeDrain_steps h.1 h.2
  · exact Steps.refl _

theorem State.runStop_steps (s : State) (q : Request) : Steps s (s.runStop q).state := by
  rw [runStop]
  split
  · exact Steps.refl _
  · next running => exact (Move.stop (not_not.1 running)).reach.trans (testDrain_steps _)

theorem State.runFlush_steps (s : State) (q : Request) : Steps s (s.runFlush q).state := by
  rw [runFlush]
  split
  · exact Steps.refl _
  · rw [accept]
    dsimp only
    exact State.foldl_reach (f := State.flushSlot) (fun t i => t.flushSlot_reach _ i) (indices 64) s

/-! ### Warm reset -/

/-- Each link of a list is reset once. -/
theorem State.foldl_warmLink (l : List LinkNo) (once : l.Nodup) (s : State) :
    l.foldl (fun (t : State) (n : LinkNo) => t.warmLink n) s =
      { s with front := Bank.build fun n => if n ∈ l then (s.front.get n).warm else s.front.get n } := by
  induction l generalizing s with
  | nil =>
    have same : (Bank.build fun n => if n ∈ ([] : List LinkNo) then (s.front.get n).warm else s.front.get n) = s.front :=
      Bank.ext_get fun n => by simp
    rw [same]; rfl
  | cons a rest ih =>
    obtain ⟨fresh, once⟩ := List.nodup_cons.1 once
    have same : (Bank.build fun n =>
        if n ∈ rest then ((s.warmLink a).front.get n).warm else (s.warmLink a).front.get n) =
        Bank.build fun n => if n ∈ a :: rest then (s.front.get n).warm else s.front.get n := by
      refine Bank.ext_get fun n => ?_
      rw [Bank.get_build, Bank.get_build, warmLink, setFront_front, Bank.get_set]
      by_cases e : n = a
      · subst e; simp [fresh]
      · simp [e]
    rw [List.foldl_cons, ih once, same]
    rfl

/-- Warm reset resets every link. -/
theorem State.warmLinks_eq (s : State) :
    (indices 24).foldl (fun (t : State) (n : LinkNo) => t.warmLink n) s = { s with front := s.front.map FrontLink.warm } := by
  have same : (Bank.build fun n => if n ∈ indices 24 then (s.front.get n).warm else s.front.get n) =
      s.front.map FrontLink.warm := Bank.ext_get fun n => by simp
  rw [State.foldl_warmLink _ indices_nodup, same]

theorem State.warmReset_steps (s : State) : Steps s s.warmReset := by
  rw [warmReset, warmLinks_eq]
  by_cases sending : s.emitter.frame = .event
  · have cut : Steps s ((s.emit .uplink .cut).bump (.part .eventFramesCut)) :=
      (s.emit_reach _ _ _).trans (bump_reach _ _ _)
    rw [warmEmitter, sending]
    refine cut.trans (Eq.mp (congrArg (Steps _) ?_) (Move.restart Emitter.idle (fun e => FrameKind.noConfusion e)).reach)
    rw [restarted, wiped]
    simp only [emptied, emit_front, bump_front]
    rfl
  · have still : s.warmEmitter = s := by
      rw [warmEmitter]
      split
      · next e => exact absurd e sending
      · rfl
      · rfl
    rw [still]
    refine Eq.mp (congrArg (Steps _) ?_) (Move.restart s.emitter sending).reach
    rw [restarted, wiped]
    simp only [emptied]

/-! ### Barring and the pedestal commands -/

/-- The event table does not read the front links. -/
theorem State.allInCheck_withFront (s : State) (b : Bank FrontLink 24) (i : SlotNo) :
    State.allInCheck { s with front := b } i = { s.allInCheck i with front := b } := by
  rw [allInCheck, allInCheck]
  dsimp only
  split <;> rfl

theorem State.noticeAtSlot_withFront (s : State) (b : Bank FrontLink 24) (n : LinkNo) (i : SlotNo) :
    State.noticeAtSlot { s with front := b } n i = { s.noticeAtSlot n i with front := b } := by
  rw [noticeAtSlot, noticeAtSlot]
  split
  · exact State.allInCheck_withFront
      (s.setSlot i { s.slots.get i with contribs := (s.slots.get i).contribs.set n (some .lost) }) b i
  · rfl

theorem State.lossNotice_withFront (s : State) (b : Bank FrontLink 24) (n : LinkNo) :
    State.lossNotice { s with front := b } n = { s.lossNotice n with front := b } := by
  rw [lossNotice, lossNotice]
  generalize indices 64 = slots
  induction slots generalizing s with
  | nil => rfl
  | cons i rest ih => rw [List.foldl_cons, List.foldl_cons, State.noticeAtSlot_withFront, ih]

/-- A loss notice and a flow decision do not meet. -/
theorem State.lossNotice_evalFront (s : State) (m : LinkNo) : (s.lossNotice m).evalFront n = (s.evalFront n).lossNotice m := by
  have same (f : FrontLink) : (s.lossNotice m).decided f = s.decided f := by
    rw [decided, decided, stallAfterFlow, stallAfterFlow, stallExpiry, stallExpiry, lossNotice_frame]
  have front : (s.lossNotice m).front = s.front := by rw [lossNotice_frame]
  have later : ((s.lossNotice m).evalFront n).front = (s.evalFront n).front := by
    rw [evalFront_eq, evalFront_eq, setFront_front, setFront_front, same, front]
  calc (s.lossNotice m).evalFront n
    _ = { s.lossNotice m with front := ((s.lossNotice m).evalFront n).front } := State.evalFront_frame _ n
    _ = { s.lossNotice m with front := (s.evalFront n).front } := by rw [later]
    _ = State.lossNotice { s with front := (s.evalFront n).front } m := (s.lossNotice_withFront _ m).symm
    _ = (s.evalFront n).lossNotice m := congrArg (fun t : State => t.lossNotice m) (s.evalFront_frame n).symm

/-- A counter and a flow decision do not meet. -/
theorem State.bumpBy_evalFront (s : State) (c : Counter) (k : Nat) :
    (s.bumpBy c k).evalFront n = (s.evalFront n).bumpBy c k := by
  rw [evalFront_eq, evalFront_eq]
  rfl

theorem State.barLink_steps (s : State) (n : LinkNo) : Steps s (s.barLink n) := by
  have bar := (LineMove.bar (s := s) (n := n)).steps.trans
    (Move.count (.link .discardedByBar n) (s.front.get n).waiting.length).reach
  rw [← State.bumpBy_evalFront] at bar
  rw [barLink]
  split
  · exact bar
  · rw [State.lossNotice_evalFront]
    exact bar.trans (lossNotice_reach _ _ n)

theorem State.runBarLink_steps (s : State) (q : Request) : Steps s (s.runBarLink q).state := by
  rw [runBarLink]
  split
  · exact Steps.refl _
  · exact s.barLink_steps _

theorem State.unbarLink_steps (barred : (s.front.get n).rx.link = .barred) : Steps s (s.unbarLink n) := by
  have dark : LineMove s (s.setRx (.front n) { s.rx (.front n) with link := .dark, frame := .outside }) := by
    refine LineMove.setRx rfl (fun h => ?_) (fun e => LinkState.noConfusion e) (fun e => LinkState.noConfusion e) id
    obtain ⟨quiet, inFrame, crc, errors, -⟩ := h
    have outside : (s.rx (.front n)).frame = .outside := quiet (by rw [rx_front, barred]; exact fun e => LinkState.noConfusion e)
    exact ⟨fun _ => rfl, fun _ => inFrame (by rw [outside]; exact fun e => FrameState.noConfusion e), crc, errors,
      fun e => LinkState.noConfusion e⟩
  exact dark.steps

theorem State.runUnbarLink_steps (s : State) (q : Request) : Steps s (s.runUnbarLink q).state := by
  rw [runUnbarLink]
  split
  · next barred => exact unbarLink_steps barred
  · exact Steps.refl _

theorem State.runPedestalStart_steps (s : State) (q : Request) : Steps s (s.runPedestalStart q).state := by
  rw [runPedestalStart]
  split
  · exact Steps.refl _
  · next started =>
    refine (Move.startAcc ?_).reach
    cases run : s.runState with
    | setup => exact absurd (.inl run) started
    | ready => exact .inl rfl
    | running => exact .inr rfl
    | draining => exact absurd (.inr run) started

theorem State.runPedestalStop_steps (s : State) (q : Request) : Steps s (s.runPedestalStop q).state := by
  rw [runPedestalStop]
  split
  · exact Steps.refl _
  · next accumulating => exact (Move.holdAcc (not_not.1 accumulating)).reach

/-- Pedestals adopted one after another (R153, R154). -/
theorem State.adoptPads_steps (entries : List (Nat × AccEntry)) (s : State) :
    Steps s { s with pads := entries.foldl adoptPad s.pads } := by
  induction entries generalizing s with
  | nil => exact Steps.refl _
  | cons e rest ih =>
    have one : Steps s { s with pads := adoptPad s.pads e } :=
      (Move.setPad e.1 { Memory.read Pad.cold s.pads e.1 with pedestal := e.2.pedestal }
        fun ⟨_, gain, threshold⟩ => ⟨Nat.min_le_left _ _, gain, threshold⟩).reach
    exact one.trans (ih _)

theorem State.runPedestalAdopt_steps (s : State) (q : Request) : Steps s (s.runPedestalAdopt q).state := by
  rw [runPedestalAdopt]
  split
  · exact Steps.refl _
  · exact State.adoptPads_steps _ s

theorem State.runClearCounters_steps (s : State) (q : Request) : Steps s (s.runClearCounters q).state := by
  rw [runClearCounters]
  split
  · exact Steps.refl _
  · exact (Move.clearCounters _).reach

theorem State.runRead_state (s : State) (q : Request) : (s.runRead q).state = s := by cases q <;> rfl

/-! ### Every command -/

/-- An event: moves, and for a request that is taken, the reply that then joins the queue, which had room (R166, R174). -/
def Event (s t : State) : Prop :=
  ∃ u, Steps s u ∧ (t = u ∨ s.replies.length < 4 ∧ ∃ r, t = { u with replies := u.replies ++ [r] })

theorem Steps.event (h : Steps s t) : Event s t := ⟨t, h, .inl rfl⟩

/-- A request that is taken is an event when its execution is a chain of moves. -/
theorem State.take_event (s : State) {row : RequestRow} {run : State → Request → Answer}
    (runs : ∀ (t : State) {content : List Word} {q}, rowOf content = row → judge content = .pass q → Steps t (run t q).state) :
    Event s (s.take row run) := by
  rw [take]
  split
  · exact (Steps.refl _).event
  · next content rest queue =>
    split
    · next may =>
      obtain ⟨may, here⟩ := may
      have room : s.replies.length < 4 := by
        simp only [mayTake, Bool.and_eq_true, decide_eq_true_eq] at may
        exact may.2
      have leaves : Steps s { s with requests := rest } := (Move.dequeueRequest content rest queue).reach
      split
      · exact ⟨_, leaves, .inr ⟨room, _, rfl⟩⟩
      · next q pass => exact ⟨_, leaves.trans (runs { s with requests := rest } here pass), .inr ⟨room, _, rfl⟩⟩
    · exact (Steps.refl _).event

/-- A request whose execution is a chain of moves, whatever its words. -/
theorem State.take_event_of_steps (s : State) {row : RequestRow} {run : State → Request → Answer}
    (runs : ∀ (t : State) q, Steps t (run t q).state) : Event s (s.take row run) :=
  s.take_event fun t _ q _ _ => runs t q

theorem State.onValidCode_wordBoundary_steps (s : State) (l : Lane) {live : State → State}
    (lives : ∀ t : State, (t.rx l).link = .live → Steps t (live t)) : Steps s ((s.wordBoundary l).onValidCode l live) :=
  (s.wordBoundary_steps l).trans (onValidCode_steps lives _)

/-- Every command but a cold reset is an event. -/
theorem exec_event (s : State) {c : Instr} (warm : c ≠ .coldReset) : ∃ t, exec c s = .next t ∧ Event s t := by
  cases c with
  | coldReset => exact absurd rfl warm
  | symbolLock l => exact ⟨_, rfl, (s.lock_steps l).event⟩
  | linkIdle l => exact ⟨_, rfl, ((s.wordBoundary_steps l).trans (State.idle_steps _ l)).event⟩
  | linkStart l => exact ⟨_, rfl, (s.onValidCode_wordBoundary_steps l fun _ live => State.startLive_steps live).event⟩
  | linkDataWord l w => exact ⟨_, rfl, (s.onValidCode_wordBoundary_steps l fun t _ => t.dataLive_steps l w).event⟩
  | linkEnd l => exact ⟨_, rfl, (s.onValidCode_wordBoundary_steps l fun t _ => t.endLive_steps l).event⟩
  | linkCut l => exact ⟨_, rfl, (s.onValidCode_wordBoundary_steps l fun t _ => t.cutLive_steps l).event⟩
  | linkCodeError l => exact ⟨_, rfl, ((s.wordBoundary_steps l).trans (State.codeError_steps _ l)).event⟩
  | farmFlowSymbol f => exact ⟨_, rfl, (State.onValidCode_steps (fun t _ => t.farmFlowLive_steps f) s).event⟩
  | inboundFlowSymbol l f =>
    cases l with
    | front n => exact ⟨_, rfl, (s.onValidCode_wordBoundary_steps (.front n) fun t _ => Steps.refl t).event⟩
    | timing => exact ⟨_, rfl, (s.onValidCode_wordBoundary_steps .timing fun t _ => Steps.refl t).event⟩
    | uplink => exact ⟨_, rfl, (State.onValidCode_steps (fun t _ => t.farmFlowLive_steps f) s).event⟩
  | frontStallExpiry n => exact ⟨_, rfl, (s.stallOut_steps _).event⟩
  | timingStallExpiry => exact ⟨_, rfl, (s.stallOut_steps _).event⟩
  | requestStallExpiry => exact ⟨_, rfl, (s.stallOut_steps _).event⟩
  | arbiterGrant b => exact ⟨_, rfl, (s.arbiterGrant_steps b).event⟩
  | burstProcessing => exact ⟨_, rfl, s.burstProcessing_steps.event⟩
  | conditioningJobEnd => exact ⟨_, rfl, s.conditioningJobEnd_steps.event⟩
  | parkJobEnd => exact ⟨_, rfl, s.parkJobEnd_steps.event⟩
  | firstExpiry i => exact ⟨_, rfl, Steps.event (s.firstExpiry_reach _ i)⟩
  | secondExpiry i => exact ⟨_, rfl, Steps.event (s.secondExpiry_reach _ i)⟩
  | orphanExpiry => exact ⟨_, rfl, s.orphanExpiry_steps.event⟩
  | eventFrameStart => exact ⟨_, rfl, s.eventFrameStart_steps.event⟩
  | eventFrameWordSent => exact ⟨_, rfl, s.eventFrameWordSent_steps.event⟩
  | eventFrameEnd => exact ⟨_, rfl, s.eventFrameEnd_steps.event⟩
  | replyFrameStart => exact ⟨_, rfl, s.replyFrameStart_steps.event⟩
  | replyFrameEnd => exact ⟨_, rfl, s.replyFrameEnd_steps.event⟩
  | drainCompletion => exact ⟨_, rfl, s.testDrain_steps.event⟩
  | read => exact ⟨_, rfl, s.take_event_of_steps fun t q => (t.runRead_state q).symm ▸ Steps.refl t⟩
  | write => exact ⟨_, rfl, s.take_event_of_steps State.runWrite_steps⟩
  | writeGeneral =>
    refine ⟨_, rfl, s.take_event fun t _ _ row pass => ?_⟩
    obtain ⟨entries, length, rfl⟩ := judge_writeGeneral row pass
    exact State.runWriteGeneral_steps length
  | writeWindows => exact ⟨_, rfl, s.take_event_of_steps State.runWriteWindows_steps⟩
  | writeRows => exact ⟨_, rfl, s.take_event_of_steps State.runWriteRows_steps⟩
  | setupDone => exact ⟨_, rfl, s.take_event_of_steps State.runSetupDone_steps⟩
  | start => exact ⟨_, rfl, s.take_event_of_steps State.runStart_steps⟩
  | stop => exact ⟨_, rfl, s.take_event_of_steps State.runStop_steps⟩
  | flush => exact ⟨_, rfl, s.take_event_of_steps State.runFlush_steps⟩
  | warmReset => exact ⟨_, rfl, s.take_event_of_steps fun t _ => t.warmReset_steps⟩
  | clearCounters => exact ⟨_, rfl, s.take_event_of_steps State.runClearCounters_steps⟩
  | clearErrors => exact ⟨_, rfl, s.take_event_of_steps fun _ _ => (Move.setErrors 0).reach⟩
  | barLink => exact ⟨_, rfl, s.take_event_of_steps State.runBarLink_steps⟩
  | unbarLink => exact ⟨_, rfl, s.take_event_of_steps State.runUnbarLink_steps⟩
  | pedestalStart => exact ⟨_, rfl, s.take_event_of_steps State.runPedestalStart_steps⟩
  | pedestalStop => exact ⟨_, rfl, s.take_event_of_steps State.runPedestalStop_steps⟩
  | pedestalAdopt => exact ⟨_, rfl, s.take_event_of_steps State.runPedestalAdopt_steps⟩
  | undefinedRequest => exact ⟨_, rfl, s.take_event_of_steps fun t _ => Steps.refl t⟩

/-! ### The end of a microsecond, and every step -/

theorem State.takeOrphans_steps (k : Nat) (s : State) : Steps s (State.takeOrphans k s) := by
  induction k generalizing s with
  | zero => exact Steps.refl _
  | succ k ih => exact s.orphanExpiry_steps.trans (ih _)

theorem State.takeDue_steps (s : State) : Steps s s.takeDue := by
  have deadlines : Steps s s.takeDeadlines :=
    State.foldl_reach (fun t i => (t.firstExpiry_reach _ i).trans (secondExpiry_reach _ _ i)) _ s
  have stalls (t : State) : Steps t t.takeStalls :=
    (Steps.trans (State.foldl_reach (fun u n => u.stallOut_steps (.front n)) _ t) (State.stallOut_steps _ _)).trans
      (State.stallOut_steps _ _)
  exact (deadlines.trans (State.takeOrphans_steps _ _)).trans (stalls _)

theorem State.setTime_steps (s : State) (now : Time) : Steps s { s with timebase := now } := (Move.setTime now).reach

theorem State.tick_steps (s : State) : Steps s s.tick := by
  have boundaries : Steps s.takeDue s.takeDue.takeBoundaries := by
    rw [takeBoundaries]
    exact State.foldl_reach (f := State.wordBoundary) (fun t l => t.wordBoundary_steps l) returnLanes s.takeDue
  exact (s.takeDue_steps.trans boundaries).trans (State.setTime_steps s.takeDue.takeBoundaries _)

/-- A predicate that reads neither the queue of commands nor the replies, and that the moves of an event keep and a cold reset
keeps, every step keeps. -/
theorem step_keeps {P : State → Prop} (pending : ∀ s p, P s → P { s with pending := p })
    (replied : ∀ s r, P s → P { s with replies := r }) (moves : ∀ s t, Steps s t → P s → P t)
    (cold : ∀ s : State, P s → P s.coldReset) (h : P s) (stepped : step s = .next t) : P t := by
  rw [step] at stepped
  split at stepped
  · obtain rfl := Host.Outcome.next.inj stepped
    exact moves _ _ s.tick_steps h
  · next c rest _ =>
    by_cases reset : c = .coldReset
    · subst reset
      cases stepped
      exact cold _ (pending s rest h)
    · obtain ⟨u, executed, v, steps, result⟩ := exec_event { s with pending := rest } reset
      cases executed.symm.trans stepped
      have kept := moves _ _ steps (pending s rest h)
      obtain rfl | ⟨-, r, rfl⟩ := result
      · exact kept
      · exact replied _ _ kept

end Sys2Proof.Machine
end

section
/-! THEOREMS. Every command answers a next state (O3), and three invariants that every move keeps by itself: run control (O6), the
deadlines (O9) and the tags (O12). -/

namespace Sys2Proof.Machine

open Sys2Proof.Safety

variable {g h : Transit} {s t : State}

/-! ### Admission and warm reset, up to the timing link's flow decision -/

theorem State.openSlot_frame (s : State) (m : Trigger) :
    s.openSlot m =
      { s with
        slots := s.slots.set s.put (s.openedSlot m), deadlines := s.deadlines.set s.put (s.openedDeadline m)
        pendingSkipped := 0, put := s.put + 1, fill := s.fill + 1, newestTag := some m.tag
        timingFlow := (s.openSlot m).timingFlow, timingDue := (s.openSlot m).timingDue } := by
  conv_lhs => rw [openSlot, evalTiming_frame]
  rfl

theorem State.restarted_frame (s : State) (e : Emitter) :
    s.restarted e =
      { s.wiped e with timingFlow := (s.restarted e).timingFlow, timingDue := (s.restarted e).timingDue } :=
  evalTiming_frame _

/-! ### What keeps the invariants -/

/-- Outside RUNNING the timing link's flow decision is HOLD (R70). -/
theorem State.evalTiming_hold (stopped : s.runState ≠ .running) : s.evalTiming.timingFlow = .hold := by
  rw [evalTiming_timingFlow, timingDecision, if_pos stopped]

end Sys2Proof.Machine

namespace Sys2Proof.Safety

open Sys2Proof.Machine

variable {s : State}

/-- A flow decision of the timing link settles what run control asks of it. -/
theorem RunControlSound.decided (lock : s.locked = true ↔ s.runState ≠ .setup) (idle : s.executing = false)
    (acc : s.accState ≠ .idle → s.locked = true) : RunControlSound s.evalTiming := by
  have hold := State.evalTiming_hold (s := s)
  rw [State.evalTiming_frame] at hold ⊢
  exact ⟨lock, hold, idle, acc⟩

theorem RunControlSound.evalTiming (k : RunControlSound s) : RunControlSound s.evalTiming := by
  obtain ⟨lock, -, idle, acc⟩ := k
  exact RunControlSound.decided lock idle acc

theorem RunControlSound.returnCells (k : RunControlSound s) (cells : List Nat) : RunControlSound (s.returnCells cells) := by
  rw [State.returnCells]
  split
  · exact k
  · exact RunControlSound.evalTiming (s := { s with freeQueue := s.freeQueue ++ cells }) k

theorem DeadlinesMatch.setSlot (k : DeadlinesMatch s) {i : SlotNo} {x : Slot}
    (same : stageOf x.state = stageOf (s.slots.get i).state) : DeadlinesMatch (s.setSlot i x) := by
  intro j
  rw [State.setSlot_deadlines, State.setSlot_slots, Bank.get_set]
  split
  · next e => rw [same, e]; exact k i
  · exact k j

/-- A slot replaced together with its deadline. -/
theorem DeadlinesMatch.setBoth (k : DeadlinesMatch s) {i : SlotNo} {x : Slot} {d : Deadline}
    (stage : d.stage = stageOf x.state) :
    DeadlinesMatch { s with slots := s.slots.set i x, deadlines := s.deadlines.set i d } := by
  intro j
  dsimp only
  rw [Bank.get_set, Bank.get_set]
  split
  · exact stage
  · exact k j

/-- A slot whose tag stays, and that does not leave FREE. -/
theorem TagsDistinct.setSlot (k : TagsDistinct s) {i : SlotNo} {x : Slot} (tag : x.tag = (s.slots.get i).tag)
    (filled : x.state ≠ .free → (s.slots.get i).state ≠ .free) : TagsDistinct (s.setSlot i x) := by
  obtain ⟨distinct, off⟩ := k
  have old (j : SlotNo) : ((s.setSlot i x).slots.get j).tag = (s.slots.get j).tag
      ∧ (((s.setSlot i x).slots.get j).state ≠ .free → (s.slots.get j).state ≠ .free) := by
    rw [State.setSlot_slots, Bank.get_set]
    split
    · next e => subst e; exact ⟨tag, filled⟩
    · exact ⟨rfl, id⟩
  refine ⟨fun a b fa fb same => distinct a b ((old a).2 fa) ((old b).2 fb) ?_, fun o mem a fa => ?_⟩
  · rw [← (old a).1, ← (old b).1]; exact same
  · rw [(old a).1]; exact off o mem a ((old a).2 fa)

/-- A slot that takes a tag no other slot carries, and the orphans without it (R7, R49). -/
theorem TagsDistinct.open (k : TagsDistinct s) {i : SlotNo} {x : Slot} (fresh : s.slotOfTag x.tag = none) :
    TagsDistinct { s with slots := s.slots.set i x, orphans := s.orphans.filter fun o => !(o.tag == x.tag) } := by
  obtain ⟨distinct, off⟩ := k
  rw [State.slotOfTag_none] at fresh
  refine ⟨fun a b fa fb same => ?_, fun o mem a fa same => ?_⟩
  · dsimp only at fa fb same
    rw [Bank.get_set] at fa fb same
    rw [Bank.get_set] at same
    split at same <;> split at same
    · next e f => rw [e, f]
    · next e f => exact absurd same.symm (fresh b (by rwa [if_neg f] at fb))
    · next e f => exact absurd same (fresh a (by rwa [if_neg e] at fa))
    · next e f => exact distinct a b (by rwa [if_neg e] at fa) (by rwa [if_neg f] at fb) same
  · dsimp only at mem fa same
    obtain ⟨mem, other⟩ := List.mem_filter.1 mem
    rw [Bank.get_set] at fa same
    split at same
    · exact absurd same.symm (by simpa using other)
    · next e => exact off o mem a (by rwa [if_neg e] at fa) same

theorem TagsDistinct.fewer (k : TagsDistinct s) {l : List Orphan} (sub : l ⊆ s.orphans) :
    TagsDistinct { s with orphans := l } := ⟨k.1, fun o mem => k.2 o (sub mem)⟩

end Sys2Proof.Safety

namespace Sys2Proof.Machine

open Sys2Proof.Safety

variable {g h : Transit} {s t : State}

/-! ### The queue of commands and the record of what was sent -/

/-- A move takes no command, and takes back nothing of what has been sent. -/
theorem Move.pending_out (m : Move g s h t) : t.pending = s.pending ∧ ∃ codes, t.out = s.out ++ codes := by
  have same {u : State} (pending : u.pending = s.pending) (out : u.out = s.out) :
      u.pending = s.pending ∧ ∃ codes, u.out = s.out ++ codes := ⟨pending, [], by rw [out, List.append_nil]⟩
  cases m with
  | send codes => exact ⟨rfl, codes, rfl⟩
  | line _ l => rw [l.frame]; exact same rfl rfl
  | lock | start | stop | drained => rw [State.evalTiming_frame]; exact same rfl rfl
  | restart => rw [State.restarted_frame]; exact same rfl rfl
  | opens => rw [State.openSlot_frame]; exact same rfl rfl
  | takeCells => rw [State.takeCells_frame]; exact same rfl rfl
  | returnCells => rw [State.returnCells_frame]; exact same rfl rfl
  | close => rw [State.closeSlot_frame]; exact same rfl rfl
  | freeSlot => rw [State.freeSlotAtGet_frame]; exact same rfl rfl
  | release => rw [State.dropHeld_frame]; exact same rfl rfl
  | _ => exact same rfl rfl

theorem Reach.pending_out (r : Reach g s h t) : t.pending = s.pending ∧ ∃ codes, t.out = s.out ++ codes := by
  refine r.keeps (P := fun _ u => u.pending = s.pending ∧ ∃ codes, u.out = s.out ++ codes) (fun m kept => ?_)
    ⟨rfl, [], (List.append_nil _).symm⟩
  obtain ⟨pending, codes, out⟩ := kept
  obtain ⟨same, more, longer⟩ := m.pending_out
  exact ⟨same.trans pending, codes ++ more, by rw [longer, out, List.append_assoc]⟩

/-- Settles O3: every command but a cold reset is a chain of moves and perhaps a reply. -/
theorem everyCommandAnswersANextState : Obligations.EveryCommandAnswersANextState := by
  intro c s
  by_cases reset : c = .coldReset
  · subst reset
    exact ⟨s.coldReset, rfl, rfl, [], (List.append_nil _).symm⟩
  · obtain ⟨t, executed, u, steps, result⟩ := exec_event s reset
    obtain ⟨pending, out⟩ := Reach.pending_out steps
    refine ⟨t, executed, ?_⟩
    obtain rfl | ⟨-, r, rfl⟩ := result
    · exact ⟨pending, out⟩
    · exact ⟨pending, out⟩

/-! ### Run control -/

theorem Move.keeps_runControlSound (m : Move g s h t) (k : RunControlSound s) : RunControlSound t := by
  have whole := k
  obtain ⟨lock, hold, idle, acc⟩ := k
  cases m with
  | line _ l => rw [l.frame]; exact whole
  | lock inSetup => exact RunControlSound.decided (by simp) idle fun _ => rfl
  | start ready =>
    exact RunControlSound.decided (lock.trans (by simp [ready])) idle acc
  | stop running => exact RunControlSound.decided (lock.trans (by simp [running])) idle acc
  | drained draining => exact RunControlSound.decided (lock.trans (by simp [draining])) idle acc
  | restart =>
    refine RunControlSound.decided (s := s.wiped _) ?_ idle acc
    show s.locked = true ↔ (if s.locked = true then RunState.ready else RunState.setup) ≠ .setup
    cases held : s.locked <;> simp
  | startAcc running =>
    refine ⟨lock, hold, idle, fun _ => lock.2 fun e => ?_⟩
    cases e.symm.trans (running.resolve_right fun r => by cases r.symm.trans e)
  | holdAcc accumulating => exact ⟨lock, hold, idle, fun _ => acc fun e => AccState.noConfusion (accumulating.symm.trans e)⟩
  | opens m _ => exact RunControlSound.evalTiming (s := { (s.setSlot s.put (s.openedSlot m)).setDeadline s.put
      (s.openedDeadline m) with pendingSkipped := 0, put := s.put + 1, fill := s.fill + 1, newestTag := some m.tag }) whole
  | takeCells count =>
    exact RunControlSound.evalTiming
      (s := { s with freeQueue := s.freeQueue.drop count, lowMark := min s.lowMark (s.freeCount - count) }) whole
  | returnCells back => exact RunControlSound.returnCells whole back
  | close => rw [State.closeSlot_frame]; exact whole
  | freeSlot e =>
    have back := RunControlSound.returnCells (s := { s with emitter := e }) whole (s.slots.get s.get).cells
    rw [State.freeSlotAtGet]
    obtain ⟨lock, -, idle, acc⟩ := back
    exact RunControlSound.decided lock idle acc
  | release => rw [State.dropHeld_frame]; exact whole
  | _ => exact whole

/-- Settles O6. -/
theorem stepKeepsRunControlSound : Obligations.StepKeepsRunControlSound := by
  intro s t
  refine step_keeps (fun _ _ k => k) (fun _ _ k => k) (fun _ _ steps k => steps.keeps (fun m => m.keeps_runControlSound) k)
    fun s _ => ⟨by simp [State.coldReset, State.reset], fun _ => rfl, rfl, fun e => absurd rfl e⟩

/-! ### Deadlines -/

theorem Move.keeps_deadlinesMatch (m : Move g s h t) (k : DeadlinesMatch s) : DeadlinesMatch t := by
  cases m with
  | line _ l => rw [l.frame]; exact k
  | lock | start | stop | drained => rw [State.evalTiming_frame]; exact k
  | restart =>
    rw [State.restarted_frame]
    intro i
    simp [State.wiped, State.emptied, Deadline.empty, Slot.empty, stageOf]
  | opens m _ =>
    rw [State.openSlot_frame]
    exact k.setBoth (i := s.put) (x := s.openedSlot m) (d := s.openedDeadline m) rfl
  | close i c =>
    rw [State.closeSlot_frame]
    refine k.setBoth (i := i) (x := (s.slots.get i).close c) (d := { s.deadlines.get i with stage := .none }) ?_
    rw [Slot.close_state]
    split <;> rfl
  | extend i => exact k.setBoth (i := i) rfl
  | lose | late | duplicate | sendCell | adoptExpected | startContribution | startExtra | startExpected | startCandidate =>
    exact k.setSlot rfl
  | finish i closing => exact k.setSlot (by rw [closing]; rfl)
  | beginFrame e closed => exact k.setSlot (by rw [closed]; rfl)
  | takeCells => rw [State.takeCells_frame]; exact k
  | returnCells => rw [State.returnCells_frame]; exact k
  | freeSlot e =>
    rw [State.freeSlotAtGet_frame]
    exact k.setBoth (i := s.get) (x := Slot.empty) (d := Deadline.empty) rfl
  | release => rw [State.dropHeld_frame]; exact k
  | endCondition j i =>
    refine k.setSlot (i := i) ?_
    rw [Slot.attach]
    split <;> rfl
  | _ => exact k

/-- Settles O9. -/
theorem stepKeepsDeadlinesMatchingSlots : Obligations.StepKeepsDeadlinesMatchingSlots := by
  intro s t
  refine step_keeps (fun _ _ k => k) (fun _ _ k => k) (fun _ _ steps k => steps.keeps (fun m => m.keeps_deadlinesMatch) k)
    fun s _ i => ?_
  simp [State.coldReset, State.reset, Deadline.empty, Slot.empty, stageOf]

/-! ### Tags -/

theorem Move.keeps_tagsDistinct (m : Move g s h t) (k : TagsDistinct s) : TagsDistinct t := by
  cases m with
  | line _ l => rw [l.frame]; exact k
  | lock | start | stop | drained => rw [State.evalTiming_frame]; exact k
  | restart =>
    rw [State.restarted_frame]
    exact ⟨fun i j fi => absurd (by simp [State.wiped, State.emptied, Slot.empty]) fi, fun o mem => absurd mem List.not_mem_nil⟩
  | opens m _ fresh =>
    rw [State.openSlot_frame]
    exact k.open (i := s.put) (x := s.openedSlot m) fresh
  | close i c opened =>
    rw [State.closeSlot_frame]
    exact k.setSlot (i := i) rfl fun _ => Slot.filled_of_isOpen opened
  | extend i opened => exact k.setSlot (i := i) rfl fun _ e => SlotState.noConfusion (opened.symm.trans e)
  | lose | late | duplicate | sendCell | adoptExpected | startContribution | startExtra | startExpected | startCandidate =>
    exact k.setSlot rfl id
  | finish i closing => exact k.setSlot rfl fun _ e => SlotState.noConfusion (closing.symm.trans e)
  | beginFrame e closed => exact k.setSlot rfl fun _ e => SlotState.noConfusion (closed.symm.trans e)
  | takeCells => rw [State.takeCells_frame]; exact k
  | returnCells => rw [State.returnCells_frame]; exact k
  | freeSlot e =>
    rw [State.freeSlotAtGet_frame]
    obtain ⟨distinct, off⟩ := k
    have old (j : SlotNo) (filled : ((s.slots.set s.get Slot.empty).get j).state ≠ .free) :
        (s.slots.set s.get Slot.empty).get j = s.slots.get j := by
      rw [Bank.get_set] at filled ⊢
      split at filled
      · exact absurd rfl filled
      · next e => exact if_neg e
    refine ⟨fun a b fa fb same => ?_, fun o mem a fa => ?_⟩
    · have atA := old a fa
      have atB := old b fb
      dsimp only at fa fb same
      rw [atA] at fa same
      rw [atB] at fb same
      exact distinct a b fa fb same
    · have atA := old a fa
      dsimp only at fa ⊢
      rw [atA] at fa ⊢
      exact off o mem a fa
  | release => rw [State.dropHeld_frame]; exact k
  | endCondition j i =>
    refine k.setSlot (i := i) ?_ ?_ <;> rw [Slot.attach] <;> split
    exacts [rfl, rfl, id, id]
  | orphansLeave gone keep sub => exact k.fewer sub.subset
  | park o rest _ fresh =>
    rw [State.slotOfTag_none] at fresh
    refine ⟨k.1, fun p mem => ?_⟩
    rcases List.mem_append.1 mem with old | new
    · exact k.2 p old
    · rw [List.mem_singleton.1 new]; exact fresh
  | _ => exact k

/-- Settles O12. -/
theorem stepKeepsTagsDistinct : Obligations.StepKeepsTagsDistinct := by
  intro s t
  refine step_keeps (fun _ _ k => k) (fun _ _ k => k) (fun _ _ steps k => steps.keeps (fun m => m.keeps_tagsDistinct) k)
    fun s _ => ⟨fun i j fi => absurd (by simp [State.coldReset, State.reset, Slot.empty]) fi,
      fun o mem => absurd mem List.not_mem_nil⟩

end Sys2Proof.Machine
end

section
/-! THEOREMS. Every move keeps the ring (R1), and what the table, the job and the adoption queue say of one another (O13). -/

namespace Sys2Proof.Machine

open Sys2Proof.Safety

variable {g h : Transit} {s t : State} {x : Slot} {n : LinkNo}

/-! ### The ring -/

/-- An event frame that ends, whichever emitter state it leaves, moves the ring on. -/
theorem State.freeSlot_ring (s : State) {e : Emitter} (ended : e.frame ≠ .event) :
    State.ring { s with emitter := e }.freeSlotAtGet = s.ring.release := by
  have idle : (e.frame == .event) = false := beq_eq_false_iff_ne.2 ended
  rw [freeSlotAtGet_frame, ring, SlotRing.release]
  congr 1
  funext i
  by_cases at_ : i = s.get <;> simp [at_, Function.update_apply, Bank.get_set, Slot.empty, SlotState.seat, ring]

theorem State.wiped_ring (s : State) {e : Emitter} (ended : e.frame ≠ .event) :
    (s.wiped e).ring = SlotRing.empty s.ring.level := by
  have idle : (e.frame == .event) = false := beq_eq_false_iff_ne.2 ended
  simp [ring, SlotRing.empty, wiped, emptied, idle, Slot.empty, SlotState.seat]

theorem Move.keeps_ring (m : Move g s h t) (k : s.ring.Sound) : t.ring.Sound := by
  cases m with
  | line _ l => rw [l.frame]; exact k
  | lock | start | stop | drained => exact k.of_eq (State.evalTiming_ring _)
  | restart e ended =>
    exact (SlotRing.empty_sound k.level_le).of_eq ((State.evalTiming_ring _).trans (s.wiped_ring ended))
  | setClass c entry range =>
    refine ⟨k.fill_le, k.run, k.put_eq, k.sending_iff, k.alone, fun d => ?_⟩
    rw [State.ring]
    dsimp only
    rw [Bank.get_set]
    split
    · exact range.2.1
    · exact k.level_le d
  | opens m _ _ room =>
    exact (SlotRing.enter_sound k (room.trans_le (k.level_le m.cls))).of_eq (State.openSlot_ring s m)
  | close i c opened => exact k.of_eq (s.closeSlot_ring c opened)
  | extend i opened => exact k.of_eq (s.extendSlot_ring opened)
  | finish i closing => exact k.of_eq (s.setSlot_ring (by rw [closing]; rfl))
  | lose | late | duplicate | sendCell | adoptExpected | startContribution | startExtra | startExpected | startCandidate =>
    exact k.of_eq (s.setSlot_ring rfl)
  | endCondition j i => exact k.of_eq (s.setSlot_ring (by rw [Slot.attach_state]))
  | setEmitter e same => exact k.of_eq (s.setEmitter_ring (Bool.eq_iff_iff.2 (by simpa using same)))
  | beginFrame e closed event =>
    have filled : s.ring.seat s.ring.get ≠ .free := by
      rw [show s.ring.seat s.ring.get = (s.slots.get s.get).state.seat from rfl, closed]
      exact fun e => Seat.noConfusion e
    refine (SlotRing.send_sound k filled).of_eq ?_
    rw [State.ring, SlotRing.send]
    congr 1
    · funext i
      by_cases e : i = s.get <;> simp [e, Function.update_apply, Bank.get_set, SlotState.seat, State.ring]
    · exact beq_iff_eq.2 event
  | freeSlot e sending ended => exact (SlotRing.release_sound k (beq_iff_eq.2 sending)).of_eq (s.freeSlot_ring ended)
  | takeCells => exact k.of_eq (State.takeCells_ring _ _)
  | returnCells => exact k.of_eq (State.returnCells_ring _ _)
  | release => exact k.of_eq (State.dropHeld_ring _ _)
  | _ => exact k

theorem Move.keeps_ringSound (m : Move g s h t) (k : RingSound s) : RingSound t :=
  t.ringSound_iff.2 (m.keeps_ring (s.ringSound_iff.1 k))

/-- The slot that a trigger is admitted to is FREE: the ring is not full (R1, R64). -/
theorem State.put_free_of_room (k : RingSound s) {c : ClassNo} (room : s.fill < (s.classes.get c).admission) :
    (s.slots.get s.put).state = .free := by
  have sound := s.ringSound_iff.1 k
  exact (SlotState.seat_free _).1 (SlotRing.put_free sound (room.trans_le (sound.level_le c)))

/-- While an event frame is sent the slot at get is EMITTING (R25). -/
theorem State.get_emitting (k : RingSound s) (sending : s.emitter.frame = .event) :
    (s.slots.get s.get).state = .emitting := k.2.2.2.1.1 sending

/-- With an empty ring every slot is FREE. -/
theorem State.free_of_fill (k : RingSound s) (empty : s.fill = 0) (i : SlotNo) : (s.slots.get i).state = .free := by
  obtain ⟨-, run, -⟩ := k
  by_contra filled
  have inside := (run (i - s.get)).1 (by rw [ringSlot, add_sub_cancel]; exact filled)
  rw [empty] at inside
  exact Nat.not_lt_zero _ inside

/-! ### One slot -/

theorem Slot.hasClosed_of_isOpen (opened : x.isOpen = true) : hasClosed x = false := by
  rcases x.isOpen_iff.1 opened with e | e <;> rw [hasClosed, e] <;> rfl

theorem Slot.close_hasClosed (x : Slot) (c : Cause) : hasClosed (x.close c) = true := by
  rw [hasClosed, Slot.close_state]
  split <;> rfl

theorem Slot.close_isOpen (x : Slot) (c : Cause) : (x.close c).isOpen = false := by
  rw [Slot.isOpen, Slot.close_state]
  split <;> rfl

theorem Slot.busy_of_contrib {c : Contribution} (here : x.contribs.get n = some c) (working : c = .queued ∨ c = .conditioning) :
    x.busy = true := by
  refine x.busy_iff.2 ⟨n, ?_⟩
  rcases working with rfl | rfl
  · exact .inl here
  · exact .inr (.inl here)

theorem Slot.busy_of_extra (here : x.extras.get n = some .conditioning) : x.busy = true :=
  x.busy_iff.2 ⟨n, .inr (.inr here)⟩

/-- A status that a closure sets (R19). -/
theorem closureStatus_ne (c : Cause) (contribs : Bank (Option Contribution) 24) : closureStatus c contribs ≠ .none := by
  rw [closureStatus]
  split_ifs <;> exact fun e => Status.noConfusion e

theorem closureStatus_flushed (c : Cause) (contribs : Bank (Option Contribution) 24) :
    closureStatus c contribs = .flushed ↔ c = .flush := by
  rw [closureStatus]
  split_ifs <;> simp_all

/-- COMPLETE stands only where every contribution is ARRIVED (R19). -/
theorem closureStatus_complete {c : Cause} {contribs : Bank (Option Contribution) 24}
    (complete : closureStatus c contribs = .complete) (n : LinkNo) :
    contribs.get n = none ∨ contribs.get n = some .arrived := by
  rw [closureStatus] at complete
  split_ifs at complete with _ partly
  by_contra other
  rw [not_or] at other
  refine partly ((contribs.any_iff _).2 ⟨n, ?_⟩)
  simp [Option.isSome_iff_ne_none, other]

/-- A closure reaches AWAITED contributions alone (R18). -/
theorem Slot.close_contrib_iff (x : Slot) (c : Cause) {d : Contribution} (other : d ≠ .awaited ∧ d ≠ .missing) :
    (x.close c).contribs.get n = some d ↔ x.contribs.get n = some d := by
  rw [Slot.close_contribs, closeContribution]
  split
  · next e => rw [e]; simp [other.1.symm, other.2.symm]
  · rfl

theorem Slot.close_sound (k : SlotSound x) {c : Cause} (caused : c ≠ .none) :
    SlotSound (x.close c) := by
  obtain ⟨-, -, -, -, -, -, -, -, apart, records⟩ := k
  have shut := x.close_hasClosed c
  refine ⟨⟨fun _ => shut, fun _ => caused⟩, ⟨fun _ => shut, fun _ => closureStatus_ne c _⟩, (closureStatus_flushed c _).symm,
    fun _ => x.close_not_awaited c, fun stays => ?_, fun ended => ?_, closureStatus_complete, fun free => ?_, fun m => ?_,
      fun m => ?_⟩
  · rw [x.close_isOpen c] at stays
    cases stays
  · rw [Slot.close_busy]
    rw [Slot.close_state] at ended
    split at ended
    · simp at ended
    · next idle => exact Bool.eq_false_iff.2 idle
  · rw [hasClosed, free] at shut
    cases shut
  · rw [Ne, x.close_contrib_iff c (d := .conditioning) ⟨fun e => Contribution.noConfusion e, fun e => Contribution.noConfusion e⟩]
    exact apart m
  · rw [x.close_contrib_iff c (d := .arrived) ⟨fun e => Contribution.noConfusion e, fun e => Contribution.noConfusion e⟩]
    exact records m

/-- One contribution replaced in a slot that is not FREE, and the link's record with it. -/
theorem Slot.setContrib_sound (k : SlotSound x) {c : Contribution} {r : Option FragRecord} (filled : x.state ≠ .free)
    (awaited : c ≠ .awaited) (missing : c ≠ .missing)
      (working : c = .queued ∨ c = .conditioning → x.state ≠ .closed ∧ x.state ≠ .emitting)
    (complete : x.status = .complete → c = .arrived) (apart : c = .conditioning → x.extras.get n ≠ some .conditioning)
    (record : r.isSome ↔ c = .arrived ∨ x.extras.get n = some .recorded) :
    SlotSound { x with contribs := x.contribs.set n (some c), records := x.records.set n r } := by
  obtain ⟨cause, status, flush, noAwaited, noMissing, notBusy, all, -, apartAll, records⟩ := k
  have other (m : LinkNo) : (x.contribs.set n (some c)).get m = if m = n then some c else x.contribs.get m := Bank.get_set _ _ _ _
  refine ⟨cause, status, flush, fun closed m => ?_, fun opened m => ?_, fun ended => ?_, fun whole m => ?_,
    fun free => absurd free filled,
    fun m => ?_, fun m => ?_⟩
  · dsimp only
    rw [other]
    split
    · exact fun e => awaited (Option.some.inj e)
    · exact noAwaited closed m
  · dsimp only
    rw [other]
    split
    · exact fun e => missing (Option.some.inj e)
    · exact noMissing opened m
  · refine Bool.eq_false_iff.2 fun busy => ?_
    have idle := Bool.eq_false_iff.1 (notBusy ended)
    obtain ⟨m, work⟩ := (Slot.busy_iff _).1 busy
    dsimp only at work
    rw [other] at work
    split at work
    · rcases work with e | e | e
      · exact ended.elim (working (.inl (Option.some.inj e))).1 (working (.inl (Option.some.inj e))).2
      · exact ended.elim (working (.inr (Option.some.inj e))).1 (working (.inr (Option.some.inj e))).2
      · exact idle (Slot.busy_of_extra e)
    · exact idle (x.busy_iff.2 ⟨m, work⟩)
  · dsimp only
    rw [other]
    split
    · exact .inr (congrArg some (complete whole))
    · exact all whole m
  · dsimp only
    rw [other]
    split
    · next e =>
      by_cases here : c = .conditioning
      · exact .inr (e ▸ apart here)
      · exact .inl fun f => here (Option.some.inj f)
    · exact apartAll m
  · dsimp only
    rw [other, Bank.get_set]
    split
    · next e => subst e; simpa using record
    · exact records m

/-- One extra replaced in a slot that is not FREE, and the link's record with it. -/
theorem Slot.setExtra_sound (k : SlotSound x) {c : ExtraState} {r : Option FragRecord} (filled : x.state ≠ .free)
    (working : c = .conditioning → x.state ≠ .closed ∧ x.state ≠ .emitting)
    (apart : c = .conditioning → x.contribs.get n ≠ some .conditioning)
    (record : r.isSome ↔ x.contribs.get n = some .arrived ∨ c = .recorded) :
    SlotSound { x with extras := x.extras.set n (some c), records := x.records.set n r } := by
  obtain ⟨cause, status, flush, noAwaited, noMissing, notBusy, all, -, apartAll, records⟩ := k
  have other (m : LinkNo) : (x.extras.set n (some c)).get m = if m = n then some c else x.extras.get m := Bank.get_set _ _ _ _
  refine ⟨cause, status, flush, noAwaited, noMissing, fun ended => ?_, all, fun free => absurd free filled,
    fun m => ?_, fun m => ?_⟩
  · refine Bool.eq_false_iff.2 fun busy => ?_
    have idle := Bool.eq_false_iff.1 (notBusy ended)
    obtain ⟨m, work⟩ := (Slot.busy_iff _).1 busy
    dsimp only at work
    rw [other] at work
    rcases work with e | e | e
    · exact idle (Slot.busy_of_contrib e (.inl rfl))
    · exact idle (Slot.busy_of_contrib e (.inr rfl))
    · split at e
      · exact ended.elim (working (Option.some.inj e)).1 (working (Option.some.inj e)).2
      · exact idle (Slot.busy_of_extra e)
  · dsimp only
    rw [other]
    split
    · next e =>
      by_cases here : c = .conditioning
      · exact .inl (e ▸ apart here)
      · exact .inr fun f => here (Option.some.inj f)
    · exact apartAll m
  · dsimp only
    rw [other, Bank.get_set]
    split
    · next e => subst e; simpa using record
    · exact records m

end Sys2Proof.Machine
end

section
/-! THEOREMS. Every move keeps contributions, extras, records, the job and the adoption queue in agreement (O13). -/

namespace Sys2Proof.Machine

open Sys2Proof.Safety

variable {g h : Transit} {s t : State} {x : Slot} {i : SlotNo} {n : LinkNo}

/-! ### What agrees, and what a change of one slot has to keep -/

theorem conditions_of_idle (free : s.job = none) (i : SlotNo) (n : LinkNo) : conditions s i n = false := by
  rw [conditions, free]

/-- A conditioning job conditions its link's fragment for its slot, and no other. -/
theorem conditions_iff {j : Job} (job : s.job = some j) (outcome : j.outcome = .condition i) (k : SlotNo) (n : LinkNo) :
    conditions s k n = true ↔ k = i ∧ n = j.link := by
  rw [conditions, job]
  dsimp only
  rw [outcome]
  simp only [Bool.and_eq_true, beq_iff_eq, JobOutcome.condition.injEq]
  exact ⟨fun ⟨a, b⟩ => ⟨a.symm, b.symm⟩, fun ⟨a, b⟩ => ⟨a.symm, b.symm⟩⟩

/-- A park job conditions nothing. -/
theorem conditions_of_park {j : Job} (job : s.job = some j) (outcome : j.outcome = .park) (i : SlotNo) (n : LinkNo) :
    conditions s i n = false := by
  rw [conditions, job]
  dsimp only
  rw [outcome]
  rfl

/-- A link of a slot is at work when its contribution or its extra is CONDITIONING. -/
def Slot.conditioning (x : Slot) (n : LinkNo) : Prop :=
  x.contribs.get n = some .conditioning ∨ x.extras.get n = some .conditioning

/-- One slot replaced, and with it perhaps the job and the adoption queue, as far as they concern that slot. -/
theorem assemblySound_of_slot (k : AssemblySound s) (slots : t.slots = s.slots.set i x) (sound : SlotSound x)
    (job : ∀ n, x.conditioning n ↔ conditions t i n = true)
    (queue : ∀ n, expectedEntries t i n = if x.contribs.get n = some .queued then 1 else 0)
    (tags : ∀ e ∈ t.adoption, e.expected = true → e.slot = i → x.tag = e.tag)
    (others : ∀ k n, k ≠ i → conditions t k n = conditions s k n ∧ expectedEntries t k n = expectedEntries s k n)
    (kept : ∀ e ∈ t.adoption, e.expected = true → e.slot ≠ i → e ∈ s.adoption) : AssemblySound t := by
  obtain ⟨slot, working, queued, tag⟩ := k
  have get (k : SlotNo) : t.slots.get k = if k = i then x else s.slots.get k := by rw [slots, Bank.get_set]
  refine ⟨fun k => ?_, fun k m => ?_, fun k m => ?_, fun e mem expected => ?_⟩
  · rw [get]; split
    · exact sound
    · exact slot k
  · rw [get]; split
    · next same => rw [same]; exact job m
    · next other => rw [(others k m other).1]; exact working k m
  · rw [get]; split
    · next same => rw [same]; exact queue m
    · next other => rw [(others k m other).2]; exact queued k m
  · rw [get]; split
    · next same => exact tags e mem expected same
    · next other => exact tag e (kept e mem expected other) expected

/-- A slot replaced beside the same job and the same adoption queue. -/
theorem assemblySound_setSlot (k : AssemblySound s) (sound : SlotSound x)
    (job : ∀ n, x.conditioning n ↔ (s.slots.get i).conditioning n)
    (queue : ∀ n, x.contribs.get n = some .queued ↔ (s.slots.get i).contribs.get n = some .queued)
    (tag : x.tag = (s.slots.get i).tag) : AssemblySound (s.setSlot i x) := by
  have whole := k
  obtain ⟨-, working, queued, tags⟩ := k
  refine assemblySound_of_slot (i := i) whole rfl sound (fun n => (job n).trans (working i n)) (fun n => ?_)
    (fun e mem expected here => ?_)
    (fun _ _ _ => ⟨rfl, rfl⟩) fun _ mem _ _ => mem
  · exact (queued i n).trans (if_congr (queue n).symm rfl rfl)
  · rw [tag, ← here]; exact tags e mem expected

/-- A slot whose links keep what they are at, when only other fields change. -/
theorem assemblySound_setFields (k : AssemblySound s) (sound : SlotSound x) (contribs : x.contribs = (s.slots.get i).contribs)
    (extras : x.extras = (s.slots.get i).extras) (tag : x.tag = (s.slots.get i).tag) : AssemblySound (s.setSlot i x) :=
  assemblySound_setSlot k sound (fun n => by rw [Slot.conditioning, Slot.conditioning, contribs, extras])
    (fun n => by rw [contribs]) tag

/-- An expected entry's contribution is QUEUED (R50). -/
theorem queued_of_entry (k : AssemblySound s) {e : Adopted} (mem : e ∈ s.adoption) (expected : e.expected = true) :
    (s.slots.get e.slot).contribs.get e.link = some .queued := by
  obtain ⟨-, -, queued, -⟩ := k
  by_contra other
  have none := queued e.slot e.link
  rw [if_neg other, expectedEntries, List.countP_eq_zero] at none
  exact none e mem (by simp [expected])

/-- In a slot that is not busy no link is at work, and no expected entry waits for it. -/
theorem idle_slot (k : AssemblySound s) (idle : (s.slots.get i).busy = false) :
    (∀ n, ¬ (s.slots.get i).conditioning n) ∧ (∀ n, (s.slots.get i).contribs.get n ≠ some .queued)
      ∧ ∀ e ∈ s.adoption, e.expected = true → e.slot ≠ i := by
  have none := Bool.eq_false_iff.1 idle
  have queued (n : LinkNo) : (s.slots.get i).contribs.get n ≠ some .queued := fun e => none (Slot.busy_of_contrib e (.inl rfl))
  refine ⟨fun n work => ?_, queued, fun e mem expected here => queued e.link (here ▸ queued_of_entry k mem expected)⟩
  rcases work with e | e
  · exact none (Slot.busy_of_contrib e (.inr rfl))
  · exact none (Slot.busy_of_extra e)

/-- A slot without work replaced by a slot without work, whatever its tag (R7, R25). -/
theorem assemblySound_setIdle (k : AssemblySound s) (sound : SlotSound x) (idle : (s.slots.get i).busy = false)
    (quiet : x.busy = false) : AssemblySound (s.setSlot i x) := by
  obtain ⟨working, queued, entries⟩ := idle_slot k idle
  have none := Bool.eq_false_iff.1 quiet
  have whole := k
  obtain ⟨-, jobs, counts, -⟩ := k
  refine assemblySound_of_slot (i := i) whole rfl sound (fun n => ?_) (fun n => ?_)
    (fun e mem expected here => absurd here (entries e mem expected))
    (fun _ _ _ => ⟨rfl, rfl⟩) fun _ mem _ _ => mem
  · refine Iff.trans ⟨fun work => ?_, fun work => absurd work (working n)⟩ (jobs i n)
    exact absurd (work.elim (fun e => Slot.busy_of_contrib e (.inr rfl)) Slot.busy_of_extra) none
  · refine (counts i n).trans (if_congr ⟨fun e => absurd e (queued n), fun e => ?_⟩ rfl rfl)
    exact absurd (Slot.busy_of_contrib e (.inl rfl)) none

theorem Slot.empty_busy : Slot.empty.busy = false := rfl

theorem Slot.empty_sound : SlotSound Slot.empty := by
  refine ⟨by decide, by decide, by decide, by decide, by decide, by decide, by decide, fun _ => rfl, fun n => .inl ?_, fun n => ?_⟩
  · simp [Slot.empty]
  · simp [Slot.empty]

/-! ### Admission and closure -/

theorem State.openedSlot_contrib (s : State) (m : Trigger) (n : LinkNo) :
    (s.openedSlot m).contribs.get n = none ∨ (s.openedSlot m).contribs.get n = some .awaited
      ∨ (s.openedSlot m).contribs.get n = some .absent := by
  rw [openedSlot, Bank.get_build, openingContribution]
  split_ifs
  · exact .inr (.inl rfl)
  · exact .inr (.inr rfl)
  · exact .inl rfl

/-- A contribution of a slot that has just opened is none of the later ones (R7). -/
theorem State.openedSlot_contrib_ne (s : State) (m : Trigger) (n : LinkNo) {c : Contribution} (awaited : c ≠ .awaited)
    (absent : c ≠ .absent) : (s.openedSlot m).contribs.get n ≠ some c := by
  rcases s.openedSlot_contrib m n with e | e | e <;> rw [e]
  · exact fun f => by cases f
  · exact fun f => awaited (Option.some.inj f).symm
  · exact fun f => absent (Option.some.inj f).symm

theorem State.openedSlot_extra (s : State) (m : Trigger) (n : LinkNo) : (s.openedSlot m).extras.get n = none := by
  rw [openedSlot]; exact Bank.get_fill _ _

theorem State.openedSlot_record (s : State) (m : Trigger) (n : LinkNo) : (s.openedSlot m).records.get n = none := by
  rw [openedSlot]; exact Bank.get_fill _ _

theorem State.openedSlot_busy (s : State) (m : Trigger) : (s.openedSlot m).busy = false := by
  refine Bool.eq_false_iff.2 fun busy => ?_
  obtain ⟨n, e | e | e⟩ := (Slot.busy_iff _).1 busy
  · exact s.openedSlot_contrib_ne m n (fun f => Contribution.noConfusion f) (fun f => Contribution.noConfusion f) e
  · exact s.openedSlot_contrib_ne m n (fun f => Contribution.noConfusion f) (fun f => Contribution.noConfusion f) e
  · cases (s.openedSlot_extra m n).symm.trans e

theorem State.openedSlot_sound (s : State) (m : Trigger) : SlotSound (s.openedSlot m) := by
  have ne (n : LinkNo) {c : Contribution} (awaited : c ≠ .awaited) (absent : c ≠ .absent) :=
    s.openedSlot_contrib_ne m n awaited absent
  refine ⟨⟨fun e => absurd rfl e, fun e => Bool.noConfusion e⟩, ⟨fun e => absurd rfl e, fun e => Bool.noConfusion e⟩,
    ⟨fun e => Cause.noConfusion e, fun e => Status.noConfusion e⟩, fun e => Bool.noConfusion e, fun _ n => ?_,
      fun _ => s.openedSlot_busy m,
    fun e => Status.noConfusion e, fun e => SlotState.noConfusion e, fun n => .inl ?_, fun n => ?_⟩
  · exact ne n (fun f => Contribution.noConfusion f) fun f => Contribution.noConfusion f
  · exact ne n (fun f => Contribution.noConfusion f) fun f => Contribution.noConfusion f
  · rw [s.openedSlot_record m n, s.openedSlot_extra m n]
    refine ⟨fun e => Bool.noConfusion e, fun e => e.elim (fun e => ?_) fun e => by cases e⟩
    exact absurd e (ne n (fun f => Contribution.noConfusion f) fun f => Contribution.noConfusion f)

theorem close_conditioning (x : Slot) (c : Cause) (n : LinkNo) : (x.close c).conditioning n ↔ x.conditioning n := by
  rw [Slot.conditioning, Slot.conditioning,
    x.close_contrib_iff c (d := .conditioning) ⟨fun e => Contribution.noConfusion e, fun e => Contribution.noConfusion e⟩]
  rfl

theorem assemblySound_close (k : AssemblySound s) {c : Cause} (caused : c ≠ .none) :
    AssemblySound (s.setSlot i ((s.slots.get i).close c)) :=
  assemblySound_setSlot k (Slot.close_sound (k.1 i) caused) (close_conditioning _ c)
    (fun _ => Slot.close_contrib_iff _ c ⟨fun e => Contribution.noConfusion e, fun e => Contribution.noConfusion e⟩) rfl

/-! ### Contributions that are still wanted -/

theorem Contribution.Wanted.ne {c : Option Contribution} (wanted : Contribution.Wanted c) :
    c ≠ none ∧ c ≠ some .queued ∧ c ≠ some .conditioning ∧ c ≠ some .arrived := by
  rcases wanted with rfl | rfl | rfl <;> simp

theorem SlotSound.status_of_isOpen (k : SlotSound x) (opened : x.isOpen = true) : x.status = .none := by
  obtain ⟨-, status, -⟩ := k
  by_contra set
  exact Bool.noConfusion ((status.1 set).symm.trans (Slot.hasClosed_of_isOpen opened))

/-- An open slot is neither CLOSED nor EMITTING. -/
theorem Slot.unended_of_isOpen (opened : x.isOpen = true) : x.state ≠ .closed ∧ x.state ≠ .emitting := by
  rcases x.isOpen_iff.1 opened with e | e <;> rw [e] <;> exact ⟨fun f => SlotState.noConfusion f, fun f => SlotState.noConfusion f⟩

/-- A slot that is at work is neither CLOSED nor EMITTING. -/
theorem Slot.unended_of_busy (k : SlotSound x) (busy : x.busy = true) : x.state ≠ .closed ∧ x.state ≠ .emitting := by
  obtain ⟨-, -, -, -, -, idle, -⟩ := k
  exact ⟨fun e => Bool.noConfusion ((idle (.inl e)).symm.trans busy), fun e => Bool.noConfusion ((idle (.inr e)).symm.trans busy)⟩

/-- A wanted contribution of an open slot that becomes QUEUED, CONDITIONING or LOST. -/
theorem Slot.take_sound (k : SlotSound x) (opened : x.isOpen = true) (wanted : Contribution.Wanted (x.contribs.get n))
    {c : Contribution}
    (next : c = .queued ∨ c = .conditioning ∨ c = .lost) (apart : c = .conditioning → x.extras.get n ≠ some .conditioning) :
    SlotSound { x with contribs := x.contribs.set n (some c) } := by
  have status := SlotSound.status_of_isOpen k opened
  obtain ⟨-, -, -, -, -, -, -, -, -, records⟩ := id k
  obtain ⟨-, -, -, unarrived⟩ := wanted.ne
  have set := Slot.setContrib_sound (n := n) (c := c) (r := x.records.get n) k (Slot.filled_of_isOpen opened)
    (by rcases next with rfl | rfl | rfl <;> exact fun e => Contribution.noConfusion e)
    (by rcases next with rfl | rfl | rfl <;> exact fun e => Contribution.noConfusion e)
    (fun _ => Slot.unended_of_isOpen opened) (fun e => Status.noConfusion (status.symm.trans e)) apart
    ((records n).trans (or_congr_left ⟨fun e => absurd e unarrived, fun e => ?_⟩))
  · rwa [Bank.set_get] at set
  · rcases next with rfl | rfl | rfl <;> cases e

/-! ### The job's beginning and end -/

theorem expectedEntries_append (s : State) (o : Orphan) (b : Bool) (i k : SlotNo) (n : LinkNo) :
    expectedEntries { s with adoption := s.adoption ++ [o.entry i b] } k n =
      expectedEntries s k n + if b = true ∧ k = i ∧ n = o.link then 1 else 0 := by
  rw [expectedEntries, List.countP_append, List.countP_singleton, expectedEntries]
  refine congrArg _ (if_congr ?_ rfl rfl)
  simp only [Orphan.entry, Bool.and_eq_true, beq_iff_eq, and_assoc]
  exact and_congr_right fun _ => and_congr eq_comm eq_comm

theorem expectedEntries_pop {e : Adopted} {rest : List Adopted} (queue : s.adoption = e :: rest) (k : SlotNo) (n : LinkNo) :
    expectedEntries s k n =
      expectedEntries { s with adoption := rest } k n + if e.expected = true ∧ k = e.slot ∧ n = e.link then 1 else 0 := by
  rw [expectedEntries, queue, List.countP_cons, expectedEntries]
  refine congrArg _ (if_congr ?_ rfl rfl)
  simp only [Bool.and_eq_true, beq_iff_eq, and_assoc]
  exact and_congr_right fun _ => and_congr eq_comm eq_comm

/-- A conditioning job begins for a link of an open or busy slot that is not at work yet: the link's contribution, or its extra,
is CONDITIONING (R10, R11, R50). -/
theorem assemblySound_start (k : AssemblySound s) (free : s.job = none) {l : List Adopted} {j : Job} {y : Slot}
    (outcome : j.outcome = .condition i) (sound : SlotSound y) (tag : y.tag = (s.slots.get i).tag)
    (work : ∀ n, y.conditioning n ↔ n = j.link ∨ (s.slots.get i).conditioning n)
    (queue : ∀ k n, expectedEntries { s with adoption := l } k n =
      if k = i then (if y.contribs.get n = some .queued then 1 else 0) else expectedEntries s k n)
    (sub : l ⊆ s.adoption) : AssemblySound { s.setSlot i y with adoption := l, job := some j } := by
  have whole := k
  obtain ⟨-, working, -, tags⟩ := k
  have mine (k : SlotNo) (n : LinkNo) : conditions { s.setSlot i y with adoption := l, job := some j } k n = true ↔
      k = i ∧ n = j.link := conditions_iff (s := { s.setSlot i y with adoption := l, job := some j }) rfl outcome k n
  have idle (n : LinkNo) : ¬ (s.slots.get i).conditioning n := fun e => by
    cases (conditions_of_idle free i n).symm.trans ((working i n).1 e)
  refine assemblySound_of_slot (i := i) whole rfl sound (fun n => ?_) (fun n => ?_) (fun e mem expected here => ?_)
    (fun k n other => ⟨?_, ?_⟩) fun _ mem _ _ => sub mem
  · rw [work, mine]
    exact ⟨fun e => ⟨rfl, e.resolve_right (idle n)⟩, fun e => .inl e.2⟩
  · exact (queue i n).trans (if_pos rfl)
  · rw [tag, ← here]; exact tags e (sub mem) expected
  · rw [conditions_of_idle free]
    exact Bool.eq_false_iff.2 fun e => other ((mine k n).1 e).1
  · exact (queue k n).trans (if_neg other)

theorem conditioning_setContrib (x : Slot) (n m : LinkNo) :
    Slot.conditioning { x with contribs := x.contribs.set n (some .conditioning) } m ↔ m = n ∨ x.conditioning m := by
  rw [Slot.conditioning, Slot.conditioning, Bank.get_set]
  by_cases e : m = n <;> simp [e]

theorem conditioning_setExtra (x : Slot) (n m : LinkNo) :
    Slot.conditioning { x with extras := x.extras.set n (some .conditioning) } m ↔ m = n ∨ x.conditioning m := by
  rw [Slot.conditioning, Slot.conditioning, Bank.get_set]
  by_cases e : m = n <;> simp [e]

/-- A front fragment is taken for a wanted contribution (R10). -/
theorem assemblySound_takeContribution (k : AssemblySound s) (free : s.job = none) (opened : (s.slots.get i).isOpen = true)
    (wanted : Contribution.Wanted ((s.slots.get i).contribs.get n)) {j : Job} (outcome : j.outcome = .condition i)
    (link : j.link = n) : AssemblySound { s.takeContribution i n with job := some j } := by
  subst link
  have whole := k
  obtain ⟨slot, working, queued, -⟩ := k
  obtain ⟨-, unqueued, -, -⟩ := wanted.ne
  have sound := Slot.take_sound (slot i) opened wanted (.inr (.inl rfl)) fun _ e => by
    cases (conditions_of_idle free i j.link).symm.trans ((working i j.link).1 (.inr e))
  refine assemblySound_start whole free outcome sound rfl (conditioning_setContrib _ j.link) (fun k m => ?_) fun _ => id
  split
  · next e =>
    rw [e, Bank.get_set]
    refine (queued i m).trans ?_
    by_cases here : m = j.link
    · rw [if_pos here, here, if_neg unqueued]; rfl
    · rw [if_neg here]
  · rfl

/-- A fragment from outside the expected set is taken as an extra (R10, R11); from the adoption queue, as the candidate at its
head. -/
theorem assemblySound_takeExtra (k : AssemblySound s) (free : s.job = none) (opened : (s.slots.get i).isOpen = true)
    (fresh : (s.slots.get i).extras.get n = none) {j : Job} (outcome : j.outcome = .condition i) (link : j.link = n)
    {l : List Adopted} (same : ∀ k m, expectedEntries { s with adoption := l } k m = expectedEntries s k m)
    (sub : l ⊆ s.adoption) : AssemblySound { s.takeExtra i n with adoption := l, job := some j } := by
  subst link
  have whole := k
  obtain ⟨slot, working, queued, -⟩ := k
  have apart : (s.slots.get i).contribs.get j.link ≠ some .conditioning := fun e => by
    cases (conditions_of_idle free i j.link).symm.trans ((working i j.link).1 (.inl e))
  obtain ⟨-, -, -, -, -, -, -, -, -, records⟩ := slot i
  have sound := Slot.setExtra_sound (n := j.link) (c := .conditioning) (r := (s.slots.get i).records.get j.link) (slot i)
    (Slot.filled_of_isOpen opened) (fun _ => Slot.unended_of_isOpen opened) (fun _ => apart)
    ((records j.link).trans (or_congr_right ⟨fun e => (by cases fresh.symm.trans e), fun e => ExtraState.noConfusion e⟩))
  rw [Bank.set_get] at sound
  refine assemblySound_start whole free outcome sound rfl (conditioning_setExtra _ j.link) (fun k m => ?_) sub
  rw [same]
  split
  · next e => rw [e]; exact queued i m
  · rfl

/-- The expected entry at the head of the adoption queue is taken (R11, R50). -/
theorem assemblySound_takeExpected (k : AssemblySound s) (free : s.job = none) {e : Adopted} {rest : List Adopted}
    (queue : s.adoption = e :: rest) (expected : e.expected = true) {j : Job} (outcome : j.outcome = .condition e.slot)
    (link : j.link = e.link) : AssemblySound { s.takeContribution e.slot e.link with adoption := rest, job := some j } := by
  have whole := k
  have here := queued_of_entry k (queue ▸ List.mem_cons_self ..) expected
  obtain ⟨slot, working, queued, -⟩ := k
  have unextra : (s.slots.get e.slot).extras.get e.link ≠ some .conditioning := fun f => by
    cases (conditions_of_idle free e.slot e.link).symm.trans ((working e.slot e.link).1 (.inr f))
  have own := slot e.slot
  have busy : (s.slots.get e.slot).busy = true := Slot.busy_of_contrib here (.inl rfl)
  obtain ⟨-, -, -, -, -, -, complete, empty, -, records⟩ := id own
  have filled : (s.slots.get e.slot).state ≠ .free := fun f => by
    rw [empty f] at busy
    cases busy
  have sound := Slot.setContrib_sound (n := e.link) (c := .conditioning) (r := (s.slots.get e.slot).records.get e.link) own filled
    (fun f => Contribution.noConfusion f) (fun f => Contribution.noConfusion f) (fun _ => Slot.unended_of_busy own busy)
    (fun f => by rcases complete f e.link with c | c <;> cases here.symm.trans c) (fun _ => unextra)
    ((records e.link).trans (or_congr_left ⟨fun f => (by cases here.symm.trans f), fun f => Contribution.noConfusion f⟩))
  rw [Bank.set_get] at sound
  refine assemblySound_start whole free outcome sound rfl (fun m => by rw [link]; exact conditioning_setContrib _ e.link m)
    (fun k m => ?_)
    (queue ▸ List.subset_cons_self ..)
  have pop := expectedEntries_pop queue k m
  split
  · next at_ =>
    subst at_
    rw [queued] at pop
    rw [Bank.get_set]
    by_cases mine : m = e.link
    · subst mine
      rw [if_pos here, if_pos ⟨expected, rfl, rfl⟩] at pop
      rw [if_pos rfl]
      simpa using pop.symm
    · rw [if_neg mine]
      simpa [mine] using pop.symm
  · next other =>
    simpa [other] using pop.symm

/-- An orphan of an open slot's tag is handed over as an expected entry (R49, R50). -/
theorem assemblySound_adopt (k : AssemblySound s) {o : Orphan} (opened : (s.slots.get i).isOpen = true)
    (tag : (s.slots.get i).tag = o.tag) (wanted : Contribution.Wanted ((s.slots.get i).contribs.get o.link)) :
    AssemblySound
      { s.setSlot i { s.slots.get i with contribs := (s.slots.get i).contribs.set o.link (some .queued) } with
        adoption := s.adoption ++ [o.entry i true] } := by
  have whole := k
  obtain ⟨slot, working, queued, tags⟩ := k
  obtain ⟨-, unqueued, unconditioned, -⟩ := wanted.ne
  have sound := Slot.take_sound (slot i) opened wanted (.inl rfl) fun e => Contribution.noConfusion e
  refine assemblySound_of_slot (i := i) whole rfl sound (fun m => ?_) (fun m => ?_) (fun e mem expected here => ?_)
    (fun k m other => ⟨rfl, ?_⟩) fun e mem _ other => ?_
  · refine Iff.trans ?_ (working i m)
    rw [Slot.conditioning, Bank.get_set]
    by_cases e : m = o.link
    · subst e; simp [unconditioned]
    · rw [if_neg e]
  · refine (expectedEntries_append s o true i i m).trans ?_
    rw [queued, Bank.get_set]
    by_cases e : m = o.link
    · subst e; simp [unqueued]
    · simp [e]
  · rcases List.mem_append.1 mem with old | new
    · exact here ▸ tags e old expected
    · rw [List.mem_singleton.1 new]; exact tag
  · refine (expectedEntries_append s o true i k m).trans ?_
    simp [other]
  · rcases List.mem_append.1 mem with old | new
    · exact old
    · rw [List.mem_singleton.1 new] at other
      exact absurd rfl other

/-- The end of a conditioning job: its record is attached (R15). -/
theorem assemblySound_attach (k : AssemblySound s) {j : Job} (job : s.job = some j) (outcome : j.outcome = .condition i) :
    AssemblySound { s.setSlot i ((s.slots.get i).attach j) with job := none } := by
  have whole := k
  obtain ⟨slot, working, queued, tags⟩ := k
  have own := slot i
  have mine := conditions_iff job outcome
  have work : (s.slots.get i).conditioning j.link := (working i j.link).2 ((mine i j.link).2 ⟨rfl, rfl⟩)
  have only (m : LinkNo) (at_ : (s.slots.get i).conditioning m) : m = j.link := ((mine i m).1 ((working i m).1 at_)).2
  have busy : (s.slots.get i).busy = true := work.elim (fun e => Slot.busy_of_contrib e (.inr rfl)) Slot.busy_of_extra
  obtain ⟨-, -, -, -, -, -, complete, empty, apart, -⟩ := id own
  have filled : (s.slots.get i).state ≠ .free := fun f => by
    rw [empty f] at busy
    cases busy
  have done : SlotSound ((s.slots.get i).attach j) ∧ (∀ m, ¬ ((s.slots.get i).attach j).conditioning m)
      ∧ (∀ m, ((s.slots.get i).attach j).contribs.get m = some .queued ↔ (s.slots.get i).contribs.get m = some .queued)
      ∧ ((s.slots.get i).attach j).tag = (s.slots.get i).tag := by
    rw [Slot.attach]
    split
    · next extra =>
      refine ⟨Slot.setExtra_sound own filled (fun e => ExtraState.noConfusion e) (fun e => ExtraState.noConfusion e)
        ⟨fun _ => .inr rfl, fun _ => rfl⟩, fun m at_ => ?_, fun _ => Iff.rfl, rfl⟩
      rw [Slot.conditioning, Bank.get_set] at at_
      by_cases e : m = j.link
      · subst e
        simp only [if_true] at at_
        exact at_.elim ((apart j.link).resolve_right (not_not.2 extra)) fun f => by cases f
      · rw [if_neg e] at at_
        exact e (only m at_)
    · next plain =>
      have contrib : (s.slots.get i).contribs.get j.link = some .conditioning := work.resolve_right plain
      refine ⟨Slot.setContrib_sound own filled (fun e => Contribution.noConfusion e) (fun e => Contribution.noConfusion e)
        (fun e => by rcases e with e | e <;> cases e) (fun _ => rfl) (fun e => Contribution.noConfusion e)
        ⟨fun _ => .inl rfl, fun _ => rfl⟩, fun m at_ => ?_, fun m => ?_, rfl⟩
      · rw [Slot.conditioning, Bank.get_set] at at_
        by_cases e : m = j.link
        · subst e
          rw [if_pos rfl] at at_
          exact at_.elim (fun f => by cases f) plain
        · rw [if_neg e] at at_
          exact e (only m at_)
      · dsimp only
        rw [Bank.get_set]
        split
        · next e => rw [e, contrib]; simp
        · rfl
  obtain ⟨sound, idle, same, tag⟩ := done
  have none (k : SlotNo) (m : LinkNo) : conditions { s.setSlot i ((s.slots.get i).attach j) with job := none } k m = false :=
    conditions_of_idle (s := { s.setSlot i ((s.slots.get i).attach j) with job := none }) rfl k m
  refine assemblySound_of_slot (i := i) whole rfl sound (fun m => ?_) (fun m => ?_) (fun e mem expected here => ?_)
    (fun k m other => ⟨?_, rfl⟩) fun _ mem _ _ => mem
  · rw [none]
    exact ⟨fun e => absurd e (idle m), fun e => Bool.noConfusion e⟩
  · exact (queued i m).trans (if_congr (same m).symm rfl rfl)
  · rw [tag, ← here]; exact tags e mem expected
  · rw [none]
    exact (Bool.eq_false_iff.2 fun e => other ((mine k m).1 e).1).symm

end Sys2Proof.Machine
end

section
/-! THEOREMS. Every step keeps the table, the job and the adoption queue in agreement (O13), and the table empty in SETUP and READY
(O11). -/

namespace Sys2Proof.Machine

open Sys2Proof.Safety

variable {g h : Transit} {s t : State}

/-! ### The agreement -/

/-- The entry that a grant drops is not an expected one: an expected entry's slot is not FREE and carries its tag (R50). -/
theorem unexpected_of_drop (k : AssemblySound s) {e : Adopted} {rest : List Adopted} (queue : s.adoption = e :: rest)
    (why : e.expected = false ∨ (s.slots.get e.slot).state = .free ∨ (s.slots.get e.slot).tag ≠ e.tag) : e.expected = false := by
  by_contra expected
  rw [Bool.not_eq_false] at expected
  have mem : e ∈ s.adoption := queue ▸ List.mem_cons_self ..
  have busy := Slot.busy_of_contrib (queued_of_entry k mem expected) (.inl rfl)
  obtain ⟨slot, -, -, tags⟩ := k
  obtain ⟨-, -, -, -, -, -, -, empty, -⟩ := slot e.slot
  rcases why with no | free | tag
  · cases no.symm.trans expected
  · rw [empty free] at busy
    cases busy
  · exact tag (tags e mem expected)

/-- An unexpected entry counts for no slot. -/
theorem expectedEntries_drop {e : Adopted} {rest : List Adopted} (queue : s.adoption = e :: rest) (candidate : e.expected = false)
    (k : SlotNo) (n : LinkNo) : expectedEntries { s with adoption := rest } k n = expectedEntries s k n := by
  rw [expectedEntries_pop queue, candidate]
  simp

theorem assemblySound_wiped (s : State) (e : Emitter) : AssemblySound (s.wiped e) := by
  have empty (i : SlotNo) : (s.wiped e).slots.get i = Slot.empty := Bank.get_fill _ _
  refine ⟨fun i => (empty i).symm ▸ Slot.empty_sound, fun i n => ?_, fun i n => ?_, fun e mem => absurd mem List.not_mem_nil⟩
  · rw [empty, conditions_of_idle rfl]
    simp [Slot.empty]
  · rw [empty]
    simp [Slot.empty, expectedEntries, State.wiped, State.emptied]

theorem Move.keeps_assemblySound (m : Move g s h t) (ring : RingSound s) (k : AssemblySound s) : AssemblySound t := by
  have sound := k.1
  cases m with
  | line _ l => rw [l.frame]; exact k
  | lock | start | stop | drained => rw [State.evalTiming_frame]; exact k
  | restart e => rw [State.restarted_frame]; exact assemblySound_wiped s e
  | opens m _ _ room =>
    have idle : (s.slots.get s.put).busy = false := by
      obtain ⟨-, -, -, -, -, -, -, empty, -⟩ := sound s.put
      rw [empty (State.put_free_of_room ring room)]
      exact Slot.empty_busy
    rw [State.openSlot_frame]
    exact assemblySound_setIdle k (s.openedSlot_sound m) idle (s.openedSlot_busy m)
  | close i c _ caused => rw [State.closeSlot_frame]; exact assemblySound_close (i := i) k caused
  | lose i n opened awaited =>
    refine assemblySound_setSlot k (Slot.take_sound (sound i) opened (.inl awaited) (.inr (.inr rfl)) fun e =>
      Contribution.noConfusion e)
      (fun m => ?_) (fun m => ?_) rfl
    · rw [Slot.conditioning, Slot.conditioning, Bank.get_set]
      by_cases e : m = n
      · subst e; simp [awaited]
      · rw [if_neg e]
    · dsimp only
      rw [Bank.get_set]
      split
      · next e => rw [e, awaited]; simp
      · rfl
  | finish i closing idle =>
    obtain ⟨cause, status, flush, noAwaited, -, -, complete, -, apart, records⟩ := sound i
    have closed : hasClosed (s.slots.get i) = true := by rw [hasClosed, closing]; rfl
    refine assemblySound_setFields k ⟨?_, ?_, flush, fun _ => noAwaited closed, fun e => Bool.noConfusion e, fun _ => idle,
      complete,
      fun e => SlotState.noConfusion e, apart, records⟩ rfl rfl rfl
    · exact ⟨fun _ => rfl, fun _ => cause.2 closed⟩
    · exact ⟨fun _ => rfl, fun _ => status.2 closed⟩
  | extend i opened =>
    obtain ⟨cause, status, flush, -, noMissing, -, complete, -, apart, records⟩ := sound i
    have unclosed : ¬ hasClosed (s.slots.get i) = true := by rw [hasClosed, opened]; exact fun e => Bool.noConfusion e
    have isOpen : (s.slots.get i).isOpen = true := (Slot.isOpen_iff _).2 (.inl opened)
    refine assemblySound_setFields (x := { s.slots.get i with state := .extended }) k ⟨?_, ?_, flush, fun e => Bool.noConfusion e,
      fun _ => noMissing isOpen, fun e => ?_, complete, fun e => SlotState.noConfusion e, apart, records⟩ rfl rfl rfl
    · exact ⟨fun e => absurd (cause.1 e) unclosed, fun e => Bool.noConfusion e⟩
    · exact ⟨fun e => absurd (status.1 e) unclosed, fun e => Bool.noConfusion e⟩
    · exact e.elim (fun e => SlotState.noConfusion e) fun e => SlotState.noConfusion e
  | late i filled | duplicate i filled =>
    obtain ⟨cause, status, flush, noAwaited, noMissing, idle, complete, -, apart, records⟩ := sound i
    exact assemblySound_setFields k ⟨cause, status, flush, noAwaited, noMissing, idle, complete, fun e => absurd e filled, apart,
      records⟩
      rfl rfl rfl
  | beginFrame e closed =>
    obtain ⟨cause, status, flush, noAwaited, -, idle, complete, -, apart, records⟩ := sound s.get
    have before : hasClosed (s.slots.get s.get) = true := by rw [hasClosed, closed]; rfl
    refine assemblySound_setFields (x := { s.slots.get s.get with state := .emitting }) k ⟨?_, ?_, flush, fun _ => noAwaited before,
      fun e => Bool.noConfusion e, fun _ => idle (.inl closed),
      complete, fun e => SlotState.noConfusion e, apart, records⟩ rfl rfl rfl
    · exact ⟨fun _ => rfl, fun _ => cause.2 before⟩
    · exact ⟨fun _ => rfl, fun _ => status.2 before⟩
  | sendCell n r sending record =>
    have emitting := State.get_emitting ring sending
    obtain ⟨cause, status, flush, noAwaited, noMissing, idle, complete, -, apart, records⟩ := sound s.get
    refine assemblySound_setFields k ⟨cause, status, flush, noAwaited, noMissing, idle, complete,
      fun e => SlotState.noConfusion (emitting.symm.trans e), apart, fun m => ?_⟩ rfl rfl rfl
    refine Iff.trans ?_ (records m)
    dsimp only
    rw [Bank.get_set]
    split
    · next e => rw [e, record]; exact Iff.rfl
    · exact Iff.rfl
  | freeSlot e sending =>
    have idle : (s.slots.get s.get).busy = false := by
      obtain ⟨-, -, -, -, -, idle, -⟩ := sound s.get
      exact idle (.inr (State.get_emitting ring sending))
    rw [State.freeSlotAtGet_frame]
    exact assemblySound_setIdle k Slot.empty_sound idle Slot.empty_busy
  | takeCells => rw [State.takeCells_frame]; exact k
  | returnCells => rw [State.returnCells_frame]; exact k
  | release => rw [State.dropHeld_frame]; exact k
  | adoptExpected i o rest _ opened tag wanted => exact assemblySound_adopt k opened tag wanted
  | adoptCandidate i o =>
    obtain ⟨slot, working, queued, tags⟩ := k
    refine ⟨slot, working, fun k n => ?_, fun e mem expected => ?_⟩
    · refine (expectedEntries_append s o false i k n).trans ?_
      simpa using queued k n
    · rcases List.mem_append.1 mem with old | new
      · exact tags e old expected
      · rw [List.mem_singleton.1 new] at expected
        cases expected
  | dropEntry e rest queue why =>
    have candidate := unexpected_of_drop k queue why
    obtain ⟨slot, working, queued, tags⟩ := k
    exact ⟨slot, working, fun k n => (expectedEntries_drop queue candidate k n).trans (queued k n),
      fun d mem => tags d (queue ▸ List.mem_cons_of_mem _ mem)⟩
  | startPark j _ _ free _ _ _ outcome =>
    obtain ⟨slot, working, queued, tags⟩ := k
    refine ⟨slot, fun i n => (working i n).trans ?_, queued, tags⟩
    rw [conditions_of_idle free, conditions_of_park (j := j) rfl outcome]
  | startContribution i n r tag urgent flags _ free opened wanted =>
    exact assemblySound_takeContribution k free opened wanted (j := newJob r n .fifo i tag urgent flags) rfl rfl
  | startExtra i n r tag urgent flags _ free opened fresh =>
    exact assemblySound_takeExtra k free opened fresh (j := newJob r n .fifo i tag urgent flags) (l := s.adoption) rfl rfl
      (fun _ _ => rfl) fun _ => id
  | startExpected e rest r tag urgent flags queue free expected =>
    exact assemblySound_takeExpected k free queue expected
      (j := newJob r e.link (.copy e.cells e.wordCount) e.slot tag urgent flags) rfl rfl
  | startCandidate e rest r tag urgent flags queue free candidate opened fresh =>
    exact assemblySound_takeExtra k free opened fresh (j := newJob r e.link (.copy e.cells e.wordCount) e.slot tag urgent flags)
      rfl rfl (expectedEntries_drop queue candidate) (queue ▸ List.subset_cons_self ..)
  | advance j j' job link _ outcome =>
    obtain ⟨slot, working, queued, tags⟩ := k
    refine ⟨slot, fun i n => (working i n).trans ?_, queued, tags⟩
    rw [conditions, conditions, job]
    dsimp only
    rw [link, outcome]
  | endCondition j i job outcome => exact assemblySound_attach k job outcome
  | endPark j job outcome =>
    obtain ⟨slot, working, queued, tags⟩ := k
    refine ⟨slot, fun i n => (working i n).trans ?_, queued, tags⟩
    rw [conditions_of_park job outcome, conditions_of_idle rfl]
  | _ => exact k

/-! ### The empty table outside a run -/

/-- The table is empty in SETUP and READY, and no copy is on its way to it. -/
def IdleWith (g : Transit) (s : State) : Prop :=
  IdleOutsideRun s ∧ (s.runState = .setup ∨ s.runState = .ready → g.copies = [])

theorem idleWith_none : IdleWith .none s ↔ IdleOutsideRun s := ⟨And.left, fun h => ⟨h, fun _ => rfl⟩⟩

/-- A move of a run does not matter outside it. -/
theorem IdleWith.of_run (running : t.runState = .running ∨ t.runState = .draining) : IdleWith g t := by
  have never : ¬ (t.runState = .setup ∨ t.runState = .ready) := by rcases running with e | e <;> rw [e] <;> simp
  exact ⟨fun e => absurd e never, fun e => absurd e never⟩

/-- In SETUP and READY no slot is open, no job is in progress and no copy is in the adoption queue: what needs one of them belongs
to a run. -/
theorem IdleWith.run_of (k : IdleWith g s) (ring : RingSound s)
    (work : (∃ i, (s.slots.get i).state ≠ .free) ∨ s.job ≠ none ∨ s.adoption ≠ [] ∨ s.emitter.frame = .event ∨ g.copies ≠ []) :
    s.runState = .running ∨ s.runState = .draining := by
  obtain ⟨idle, copies⟩ := k
  by_contra outside
  have quiet : s.runState = .setup ∨ s.runState = .ready := by
    rcases hrun : s.runState with _ | _ | _ | _ <;> simp_all
  obtain ⟨fill, -, adoption, job, emitter⟩ := idle quiet
  rcases work with ⟨i, filled⟩ | j | a | e | c
  · exact filled (State.free_of_fill ring fill i)
  · exact j job
  · exact a adoption
  · exact emitter e
  · exact c (copies quiet)

theorem Move.keeps_idleWith (m : Move g s h t) (ring : RingSound s) (k : IdleWith g s) : IdleWith h t := by
  have run := k.run_of ring
  have isOpen {i : SlotNo} (opened : (s.slots.get i).isOpen = true) := run (.inl ⟨i, Slot.filled_of_isOpen opened⟩)
  cases m with
  | line _ l => rw [l.frame]; exact k
  | lock inSetup =>
    rw [State.evalTiming_frame]
    exact ⟨fun _ => k.1 (.inl inSetup), fun _ => k.2 (.inl inSetup)⟩
  | start | stop => rw [State.evalTiming_frame]; exact IdleWith.of_run (by simp)
  | drained _ idle gone =>
    rw [State.evalTiming_frame]
    rw [State.drained] at idle
    simp only [Bool.and_eq_true, beq_iff_eq, Option.isNone_iff_eq_none, List.isEmpty_iff] at idle
    obtain ⟨⟨⟨fill, job⟩, adoption⟩, emitter⟩ := idle
    exact idleWith_none.2 fun _ => ⟨fill, gone, adoption, job, by rw [emitter]; exact fun e => FrameKind.noConfusion e⟩
  | restart e over_ =>
    rw [State.restarted_frame]
    exact idleWith_none.2 fun _ => ⟨rfl, rfl, rfl, rfl, over_⟩
  | opens m running => rw [State.openSlot_frame]; exact IdleWith.of_run (.inl running)
  | close i c opened => rw [State.closeSlot_frame]; exact k
  | setEmitter e same =>
    exact ⟨fun quiet => by
      obtain ⟨fill, orphans, adoption, job, emitter⟩ := k.1 quiet
      exact ⟨fill, orphans, adoption, job, fun e => emitter (same.1 e)⟩, k.2⟩
  | beginFrame e closed =>
    exact IdleWith.of_run (run (.inl ⟨s.get, by rw [closed]; exact fun e => SlotState.noConfusion e⟩))
  | freeSlot e sending =>
    rw [State.freeSlotAtGet_frame]
    exact IdleWith.of_run (run (.inr (.inr (.inr (.inl sending)))))
  | takeCells => rw [State.takeCells_frame]; exact k
  | returnCells => rw [State.returnCells_frame]; exact k
  | release => rw [State.dropHeld_frame]; exact k
  | orphansLeave gone keep sub =>
    refine ⟨fun quiet => ?_, k.2⟩
    obtain ⟨fill, orphans, rest⟩ := k.1 quiet
    exact ⟨fill, List.sublist_nil.1 (orphans ▸ sub), rest⟩
  | park o rest copies | dropCopy o rest copies =>
    exact IdleWith.of_run (run (.inr (.inr (.inr (.inr (by rw [copies]; exact List.cons_ne_nil _ _))))))
  | adoptExpected i o rest _ opened | adoptCandidate i o rest _ opened => exact IdleWith.of_run (isOpen opened)
  | dropEntry e rest queue | startExpected e rest _ _ _ _ queue | startCandidate e rest _ _ _ _ queue =>
    exact IdleWith.of_run (run (.inr (.inr (.inl (by rw [queue]; exact List.cons_ne_nil _ _)))))
  | startPark j _ _ _ running => exact IdleWith.of_run (.inl running)
  | startContribution i _ _ _ _ _ _ _ opened | startExtra i _ _ _ _ _ _ _ opened => exact IdleWith.of_run (isOpen opened)
  | advance j j' job | endCondition j i job | endPark j job =>
    exact IdleWith.of_run (run (.inr (.inl (by rw [job]; exact fun e => by cases e))))
  | _ => exact k

end Sys2Proof.Machine
end

section
/-! THEOREMS. The state after reset meets every invariant (O5); and what a step keeps of the ring, the table and the queues
together (O11, O13). -/

namespace Sys2Proof.Machine

open Sys2Proof.Safety

variable {g h : Transit} {s t : State}

/-! ### After reset -/

theorem State.reset_slot (i : SlotNo) : State.reset.slots.get i = Slot.empty := Bank.get_fill _ _

theorem State.reset_deadline (i : SlotNo) : State.reset.deadlines.get i = Deadline.empty := Bank.get_fill _ _

theorem State.reset_front (n : LinkNo) : State.reset.front.get n = FrontLink.cold := Bank.get_fill _ _

theorem State.reset_freeQueue : State.reset.freeQueue = allCells := by rw [State.reset]

theorem reset_runControlSound : RunControlSound State.reset :=
  ⟨by simp [State.reset], fun _ => rfl, rfl, fun e => absurd rfl e⟩

theorem reset_jobSound : JobSound State.reset := by
  refine ⟨fun n => ?_, fun j e => by cases e⟩
  rw [State.reset_front]
  exact ⟨fun e => absurd rfl e, fun ⟨j, job, _⟩ => by cases job⟩

theorem reset_settingsInRange : SettingsInRange State.reset := by
  have classes (c : ClassNo) : State.reset.classes.get c = ClassEntry.cold := Bank.get_fill _ _
  have windows (i : SlotNo) : State.reset.windows.get i = MapWindow.cold := Bank.get_fill _ _
  have offsets (n : LinkNo) : State.reset.offsets.get n = 0 := Bank.get_fill _ _
  have rows (r : RowNo) : State.reset.rows.get r = 0 := Bank.get_fill _ _
  refine ⟨?_, fun c => ?_, fun n => ?_, fun r => ?_, fun i => ?_, fun k => ?_⟩
  · show GeneralInRange General.cold
    rw [GeneralInRange]; decide
  · rw [classes]; rw [ClassInRange]; decide
  · rw [offsets]; decide
  · rw [rows]; decide
  · rw [windows]; rw [WindowInRange]; decide
  · show PadInRange Pad.cold
    rw [PadInRange]; decide

theorem reset_countsInRange : CountsInRange State.reset := by
  refine ⟨fun k => ?_, fun i => ?_, ?_⟩
  · exact (by decide : AccEntry.cold.count ≤ 65535 ∧ AccEntry.cold.sum ≤ 1022 * AccEntry.cold.count)
  · rw [State.reset_slot]; decide
  · decide

theorem reset_deadlinesMatch : DeadlinesMatch State.reset := by
  intro i
  rw [State.reset_deadline, State.reset_slot]
  rfl

theorem reset_ringSound : RingSound State.reset := by
  refine State.reset.ringSound_iff.2 ((SlotRing.empty_sound (level := fun _ => 64) fun _ => le_rfl).of_eq ?_)
  simp [State.ring, SlotRing.empty, State.reset, Emitter.idle, Slot.empty, SlotState.seat, ClassEntry.cold]

theorem reset_tagsDistinct : TagsDistinct State.reset := by
  refine ⟨fun i _ filled => absurd ?_ filled, fun o mem => absurd mem List.not_mem_nil⟩
  rw [State.reset_slot]
  rfl

theorem reset_assemblySound : AssemblySound State.reset := by
  refine ⟨fun i => ?_, fun i n => ?_, fun i n => ?_, fun e mem => absurd mem List.not_mem_nil⟩
  · rw [State.reset_slot]; exact Slot.empty_sound
  · rw [State.reset_slot, conditions_of_idle rfl]; simp [Slot.empty]
  · rw [State.reset_slot]; simp [Slot.empty, expectedEntries, State.reset]

theorem reset_contributionsMatch : ContributionsMatch State.reset := by
  intro i n filled
  rw [State.reset_slot] at filled
  exact absurd rfl filled

theorem Slot.empty_cells : Slot.empty.cells = [] := by
  rw [Slot.cells, List.flatMap_eq_nil_iff]
  intro n _
  simp [Slot.empty]

theorem reset_ownedCells : ownedCells State.reset = [] := by
  have slots : (indices 64).flatMap (fun i => (State.reset.slots.get i).cells) = [] := by
    rw [List.flatMap_eq_nil_iff]
    intro i _
    rw [State.reset_slot]
    exact Slot.empty_cells
  rw [ownedCells, slots]
  rfl

theorem reset_cellsConserved : CellsConserved State.reset := by
  rw [CellsConserved, reset_ownedCells, List.append_nil, State.reset_freeQueue]

theorem reset_chainsSound : ChainsSound State.reset := by
  refine ⟨fun j e => (by cases e), fun o mem => absurd mem List.not_mem_nil, fun e mem => absurd mem List.not_mem_nil,
    fun i n r _ record => ?_⟩
  rw [State.reset_slot] at record
  simp [Slot.empty] at record

/-- A receiver in its cold reset state is sound. -/
theorem Receiver.quiet_sound : ReceiverSound (Receiver.quiet .dark) :=
  ⟨fun _ => rfl, fun _ => ⟨rfl, rfl⟩, rfl, Nat.zero_lt_succ _, fun e => LinkState.noConfusion e⟩

theorem reset_receiversSound : ReceiversSound State.reset := by
  refine ⟨fun n => ?_, Receiver.quiet_sound, Receiver.quiet_sound, fun e => LinkState.noConfusion e,
    fun e => LinkState.noConfusion e,
    Nat.zero_le _, Nat.zero_le _⟩
  rw [State.reset_front]
  exact ⟨Receiver.quiet_sound, fun e => Flow.noConfusion e, Nat.zero_le _, fun w mem => absurd mem List.not_mem_nil,
    fun w e => (by cases e), Nat.zero_le _, fun _ => rfl, fun e => NoticeState.noConfusion e⟩

theorem reset_flowSettled : FlowSettled State.reset := by
  refine ⟨rfl, fun n => ?_⟩
  rw [State.reset_front]
  rfl

theorem reset_idleOutsideRun : IdleOutsideRun State.reset :=
  fun _ => ⟨rfl, rfl, rfl, rfl, fun e => FrameKind.noConfusion e⟩

/-- Settles O5. -/
theorem resetIsSound : Obligations.ResetIsSound :=
  ⟨reset_runControlSound, ⟨by decide, by decide, by decide⟩, reset_jobSound, State.wf_reset, fun _ => Nat.zero_le _,
    reset_countsInRange, reset_settingsInRange, reset_deadlinesMatch, reset_ringSound, reset_tagsDistinct, reset_assemblySound,
    reset_contributionsMatch, reset_cellsConserved, reset_chainsSound, reset_receiversSound, reset_flowSettled,
    reset_idleOutsideRun⟩

/-! ### The table outside a run -/

/-- Settles O11, by what every move keeps of the ring and of the table outside a run. -/
theorem stepKeepsTheTableEmptyOutsideRun : Obligations.StepKeepsTheTableEmptyOutsideRun := by
  intro s t ring idle stepped
  refine (step_keeps (P := fun s => RingSound s ∧ IdleOutsideRun s) (fun _ _ k => k) (fun _ _ k => k) (fun u v steps k => ?_)
    (fun _ _ => ⟨reset_ringSound, reset_idleOutsideRun⟩) ⟨ring, idle⟩ stepped).2
  obtain ⟨ring, idle⟩ := steps.keeps (P := fun g s => RingSound s ∧ IdleWith g s)
    (fun m k => ⟨m.keeps_ringSound k.1, m.keeps_idleWith k.1 k.2⟩) ⟨k.1, idleWith_none.2 k.2⟩
  exact ⟨ring, idleWith_none.1 idle⟩

/-! ### The contribution map against the class set -/

theorem contributionsMatch_setSlot (k : ContributionsMatch s) {i : SlotNo} {x : Slot}
    (filled : x.state ≠ .free → (s.slots.get i).state ≠ .free) (cls : x.cls = (s.slots.get i).cls)
    (same : ∀ n, x.contribs.get n = none ↔ (s.slots.get i).contribs.get n = none) : ContributionsMatch (s.setSlot i x) := by
  intro j n
  rw [State.setSlot_slots, State.setSlot_classes, Bank.get_set]
  split
  · intro here
    rw [cls, Ne, same]
    exact k i n (filled here)
  · exact k j n

theorem contributionsMatch_setFields (k : ContributionsMatch s) {i : SlotNo} {x : Slot}
    (filled : x.state ≠ .free → (s.slots.get i).state ≠ .free) (cls : x.cls = (s.slots.get i).cls)
    (contribs : x.contribs = (s.slots.get i).contribs) : ContributionsMatch (s.setSlot i x) :=
  contributionsMatch_setSlot k filled cls fun n => by rw [contribs]

/-- A contribution replaced where there is one. -/
theorem contributionsMatch_setContrib (k : ContributionsMatch s) {i : SlotNo} {n : LinkNo} {c : Contribution}
    (here : (s.slots.get i).contribs.get n ≠ none) :
    ContributionsMatch (s.setSlot i { s.slots.get i with contribs := (s.slots.get i).contribs.set n (some c) }) := by
  refine contributionsMatch_setSlot k id rfl fun m => ?_
  dsimp only
  rw [Bank.get_set]
  split
  · next e => rw [e]; simp [here]
  · exact Iff.rfl

theorem contributionsMatch_open (k : ContributionsMatch s) (m : Trigger) :
    ContributionsMatch (s.setSlot s.put (s.openedSlot m)) := by
  intro i n
  rw [State.setSlot_slots, State.setSlot_classes, Bank.get_set]
  split
  · intro _
    show (Bank.build fun n => s.openingContribution m.cls n).get n ≠ none ↔ (s.classes.get m.cls).expected.getLsbD n.val = true
    rw [Bank.get_build, State.openingContribution]
    split
    · next expected =>
      refine ⟨fun _ => expected, fun _ => ?_⟩
      split <;> simp
    · next other => exact ⟨fun e => absurd rfl e, fun e => absurd e other⟩
  · exact k i n

theorem Move.keeps_contributionsMatch (m : Move g s h t) (ring : RingSound s) (assembly : AssemblySound s) (idle : IdleWith g s)
    (k : ContributionsMatch s) : ContributionsMatch t := by
  cases m with
  | line _ l => rw [l.frame]; exact k
  | lock | start | stop | drained => rw [State.evalTiming_frame]; exact k
  | restart e =>
    rw [State.restarted_frame]
    intro i n filled
    exact absurd (congrArg Slot.state (Bank.get_fill Slot.empty i)) filled
  | setClass c entry _ quiet =>
    intro i n filled
    obtain ⟨fill, -⟩ := idle.1 quiet
    exact absurd (State.free_of_fill ring fill i) filled
  | opens m => rw [State.openSlot_frame]; exact contributionsMatch_open k m
  | close i c opened =>
    rw [State.closeSlot_frame]
    refine contributionsMatch_setSlot (i := i) k (fun _ => Slot.filled_of_isOpen opened) rfl fun n => ?_
    rw [Slot.close_contribs, closeContribution]
    split
    · next e => rw [e]; simp
    · exact Iff.rfl
  | lose i n _ awaited => exact contributionsMatch_setContrib k (by rw [awaited]; exact fun e => by cases e)
  | finish i closing =>
    exact contributionsMatch_setFields k (fun _ e => SlotState.noConfusion (closing.symm.trans e)) rfl rfl
  | extend i opened =>
    exact contributionsMatch_setFields (i := i) k (fun _ e => SlotState.noConfusion (opened.symm.trans e)) rfl rfl
  | late | duplicate | sendCell => exact contributionsMatch_setFields k id rfl rfl
  | beginFrame e closed =>
    exact contributionsMatch_setFields k (fun _ e => SlotState.noConfusion (closed.symm.trans e)) rfl rfl
  | freeSlot =>
    rw [State.freeSlotAtGet_frame]
    intro i n
    dsimp only
    rw [Bank.get_set]
    split
    · exact fun filled => absurd rfl filled
    · exact k i n
  | takeCells => rw [State.takeCells_frame]; exact k
  | returnCells => rw [State.returnCells_frame]; exact k
  | release => rw [State.dropHeld_frame]; exact k
  | adoptExpected i o rest _ _ _ wanted => exact contributionsMatch_setContrib k wanted.ne.1
  | startContribution i n _ _ _ _ _ _ _ wanted => exact contributionsMatch_setContrib k wanted.ne.1
  | startExtra | startCandidate => exact contributionsMatch_setFields k id rfl rfl
  | startExpected e rest _ _ _ _ queue _ expected =>
    have queued := queued_of_entry assembly (queue ▸ List.mem_cons_self ..) expected
    exact contributionsMatch_setContrib k (by rw [queued]; exact fun e => by cases e)
  | endCondition j i job outcome =>
    have work := (assembly.2.1 i j.link).2 ((conditions_iff job outcome i j.link).2 ⟨rfl, rfl⟩)
    rw [Slot.attach]
    split
    · exact contributionsMatch_setFields (i := i) k id rfl rfl
    · next plain =>
      have here : (s.slots.get i).contribs.get j.link ≠ none := by
        rw [work.resolve_right plain]
        exact fun e => by cases e
      refine contributionsMatch_setSlot (i := i) k id rfl fun m => ?_
      dsimp only
      rw [Bank.get_set]
      split
      · next e => rw [e]; simp [here]
      · exact Iff.rfl
  | _ => exact k

/-- Settles O13: both halves are kept by every move, the second one beside the empty table outside a run. -/
theorem stepKeepsAssemblySound : Obligations.StepKeepsAssemblySound := by
  intro s t ring assembly stepped
  constructor
  · refine (step_keeps (P := fun s => RingSound s ∧ AssemblySound s) (fun _ _ k => k) (fun _ _ k => k) (fun u v steps k => ?_)
      (fun _ _ => ⟨reset_ringSound, reset_assemblySound⟩) ⟨ring, assembly⟩ stepped).2
    exact steps.keeps (P := fun _ s => RingSound s ∧ AssemblySound s)
      (fun m k => ⟨m.keeps_ringSound k.1, m.keeps_assemblySound k.1 k.2⟩) k
  · intro idle matching
    refine (step_keeps (P := fun s => RingSound s ∧ AssemblySound s ∧ IdleOutsideRun s ∧ ContributionsMatch s) (fun _ _ k => k)
      (fun _ _ k => k) (fun u v steps k => ?_)
      (fun _ _ => ⟨reset_ringSound, reset_assemblySound, reset_idleOutsideRun, reset_contributionsMatch⟩)
      ⟨ring, assembly, idle, matching⟩ stepped).2.2.2
    obtain ⟨ring, assembly, idle, matching⟩ := k
    obtain ⟨ring, assembly, idle, matching⟩ := steps.keeps
      (P := fun g s => RingSound s ∧ AssemblySound s ∧ IdleWith g s ∧ ContributionsMatch s) (fun m k => by
        obtain ⟨ring, assembly, idle, matching⟩ := k
        exact ⟨m.keeps_ringSound ring, m.keeps_assemblySound ring assembly, m.keeps_idleWith ring idle,
          m.keeps_contributionsMatch ring assembly idle matching⟩) ⟨ring, assembly, idleWith_none.2 idle, matching⟩
    exact ⟨ring, assembly, idleWith_none.1 idle, matching⟩

end Sys2Proof.Machine
end

section
/-! THEOREMS. Every step conserves the 8,192 cells (O14). -/

namespace Sys2Proof.Machine

open Sys2Proof.Safety

variable {g h : Transit} {s t : State}

/-! ### Chains that are listed link by link, and slot by slot -/

/-- A list of chains with one chain replaced: what the other one held is gone, and what the new one holds is there. -/
theorem count_flatMap_indices {n : Nat} {f f' : Fin n → List Nat} (i : Fin n) (others : ∀ k, k ≠ i → f' k = f k) (a : Nat) :
    ((indices n).flatMap f').count a + (f i).count a = ((indices n).flatMap f).count a + (f' i).count a := by
  have sum (h : Fin n → List Nat) : ((indices n).flatMap h).count a = ∑ k, (h k).count a := by
    rw [List.count_flatMap, indices, List.map_ofFn, List.sum_ofFn]
    rfl
  have rest : ∑ k ∈ {i}ᶜ, (f' k).count a = ∑ k ∈ {i}ᶜ, (f k).count a :=
    Finset.sum_congr rfl fun k other => by rw [others k (by simpa using other)]
  rw [sum, sum, Fintype.sum_eq_add_sum_compl i, Fintype.sum_eq_add_sum_compl i (fun k => (f k).count a), rest]
  omega

/-- The cells of a link's record. -/
def Slot.chain (x : Slot) (n : LinkNo) : List Nat := ((x.records.get n).map FragRecord.cells).getD []

/-- One record of a slot replaced. -/
theorem Slot.count_cells_set (x : Slot) (n : LinkNo) (r : FragRecord) {y : Slot}
    (set : y.records = x.records.set n (some r)) (a : Nat) :
    y.cells.count a + (x.chain n).count a = x.cells.count a + r.cells.count a := by
  have here : y.chain n = r.cells := by rw [Slot.chain, set, Bank.get_set_self]; rfl
  have moved := count_flatMap_indices (f := x.chain) (f' := y.chain) n
    (fun k other => by rw [Slot.chain, set, Bank.get_set_ne _ _ other]; rfl) a
  rw [here] at moved
  exact moved

/-- The chains of a table, slot by slot. -/
def tableCells (slots : Bank Slot 64) : List Nat := (indices 64).flatMap fun i => (slots.get i).cells

theorem count_tableCells_set (slots : Bank Slot 64) (i : SlotNo) (x : Slot) (a : Nat) :
    (tableCells (slots.set i x)).count a + (slots.get i).cells.count a = (tableCells slots).count a + x.cells.count a := by
  have moved := count_flatMap_indices (f := fun k => (slots.get k).cells) (f' := fun k => ((slots.set i x).get k).cells) i
    (fun k other => by rw [Bank.get_set_ne _ _ other]) a
  rw [Bank.get_set_self] at moved
  exact moved

/-- A slot replaced by one with the same records. -/
theorem records_set {slots : Bank Slot 64} {i : SlotNo} {x : Slot} (records : x.records = (slots.get i).records) (k : SlotNo) :
    ((slots.set i x).get k).records = (slots.get k).records := by
  rw [Bank.get_set]
  split
  · next e => rw [e, records]
  · rfl

theorem tableCells_congr {b c : Bank Slot 64} (records : ∀ k, (b.get k).records = (c.get k).records) :
    tableCells b = tableCells c := by
  refine List.flatMap_congr fun k _ => ?_
  rw [Slot.cells, Slot.cells, records]

/-! ### Every cell, within an event -/

/-- Every cell, the free ones first, and those in transit last. -/
def cellsWith (g : Transit) (s : State) : List Nat :=
  s.freeQueue ++ ownedCells s ++ (g.copies.flatMap Orphan.cells ++ g.cells)

theorem cellsWith_none (s : State) : cellsWith .none s = s.freeQueue ++ ownedCells s := List.append_nil _

theorem count_cellsWith (g : Transit) (s : State) (a : Nat) :
    (cellsWith g s).count a =
      s.freeQueue.count a + (tableCells s.slots).count a + (s.orphans.flatMap Orphan.cells).count a
        + (s.adoption.flatMap Adopted.cells).count a + (jobCells s).count a + (g.copies.flatMap Orphan.cells).count a
        + g.cells.count a := by
  simp only [cellsWith, ownedCells, tableCells, List.count_append]
  omega

theorem jobCells_of_idle (free : s.job = none) : jobCells s = [] := by rw [jobCells, free]

theorem jobCells_of_job {j : Job} (job : s.job = some j) : jobCells s = j.cells ++ j.source.cells := by
  rw [jobCells, job]
  dsimp only
  cases j.source <;> rfl

/-- A park job reads its frame from the FIFO (R113). -/
def ParksFromFifo (s : State) : Prop := ∀ j, s.job = some j → j.outcome = .park → j.source = .fifo

theorem Move.keeps_parksFromFifo (m : Move g s h t) (k : ParksFromFifo s) : ParksFromFifo t := by
  cases m with
  | line _ l => rw [l.frame]; exact k
  | lock | start | stop | drained => rw [State.evalTiming_frame]; exact k
  | restart => rw [State.restarted_frame]; exact fun j e => by cases e
  | opens => rw [State.openSlot_frame]; exact k
  | close => rw [State.closeSlot_frame]; exact k
  | freeSlot => rw [State.freeSlotAtGet_frame]; exact k
  | takeCells => rw [State.takeCells_frame]; exact k
  | returnCells => rw [State.returnCells_frame]; exact k
  | release => rw [State.dropHeld_frame]; exact k
  | startPark j _ _ _ _ _ fifo =>
    intro j' e _
    rw [← Option.some.inj e]
    exact fifo
  | startContribution | startExtra | startExpected | startCandidate =>
    intro j' e park
    rw [← Option.some.inj e] at park
    cases park
  | advance j j' job _ source outcome =>
    intro j'' e park
    rw [← Option.some.inj e] at park ⊢
    exact source.trans (k j job (outcome ▸ park))
  | endCondition | endPark => exact fun j e => by cases e
  | _ => exact k

/-- A FREE slot owns no cell. -/
theorem cells_of_free (k : AssemblySound s) {i : SlotNo} (free : (s.slots.get i).state = .free) : (s.slots.get i).cells = [] := by
  obtain ⟨-, -, -, -, -, -, -, empty, -⟩ := k.1 i
  rw [empty free, Slot.empty_cells]

theorem wiped_ownedCells (s : State) (e : Emitter) : ownedCells (s.wiped e) = [] := by
  have slots : (indices 64).flatMap (fun i => ((s.wiped e).slots.get i).cells) = [] := by
    rw [List.flatMap_eq_nil_iff]
    intro i _
    rw [show (s.wiped e).slots.get i = Slot.empty from Bank.get_fill _ _]
    exact Slot.empty_cells
  rw [ownedCells, slots]
  rfl

/-- A warm reset makes every cell free (R145). -/
theorem cellsWith_restarted (s : State) (e : Emitter) : cellsWith .none (s.restarted e) = allCells := by
  have owned : ownedCells (s.restarted e) = [] := by rw [State.restarted_frame]; exact wiped_ownedCells s e
  have free : (s.restarted e).freeQueue = allCells := by rw [State.restarted_frame, State.wiped, State.emptied]
  rw [cellsWith_none, owned, free, List.append_nil]

/-- A chain is taken out of a slot, or given to it. -/
theorem Slot.count_attach (x : Slot) (j : Job) (a : Nat) :
    (x.attach j).cells.count a + (x.displaced j.link).count a = x.cells.count a + j.cells.count a := by
  rw [Slot.attach]
  split
  · exact Slot.count_cells_set x j.link (j.fragment true) rfl a
  · exact Slot.count_cells_set x j.link (j.fragment false) rfl a

/-- A change of the table that leaves the records. -/
theorem count_cellsWith_same (g : Transit) (records : ∀ k, (t.slots.get k).records = (s.slots.get k).records)
    (free : t.freeQueue = s.freeQueue) (orphans : t.orphans = s.orphans) (adoption : t.adoption = s.adoption)
    (job : t.job = s.job) (a : Nat) : (cellsWith g t).count a = (cellsWith g s).count a := by
  have jobs : jobCells t = jobCells s := by rw [jobCells, jobCells, job]
  rw [count_cellsWith, count_cellsWith, tableCells_congr records, free, orphans, adoption, jobs]

theorem setContrib_tableCells (s : State) (i : SlotNo) (n : LinkNo) (c : Contribution) :
    tableCells (s.slots.set i { s.slots.get i with contribs := (s.slots.get i).contribs.set n (some c) }) = tableCells s.slots :=
  tableCells_congr (records_set rfl)

theorem takeContribution_tableCells (s : State) (i : SlotNo) (n : LinkNo) :
    tableCells (s.takeContribution i n).slots = tableCells s.slots := setContrib_tableCells s i n .conditioning

theorem takeExtra_tableCells (s : State) (i : SlotNo) (n : LinkNo) :
    tableCells (s.takeExtra i n).slots = tableCells s.slots := tableCells_congr (records_set rfl)

/-- Every move but a warm reset leaves every cell where it is, or moves it. -/
theorem Move.count_cells (m : Move g s h t) (warm : ¬ ∃ e, h = .none ∧ t = s.restarted e) (ring : RingSound s)
    (assembly : AssemblySound s)
    (parks : ParksFromFifo s) (a : Nat) : (cellsWith h t).count a = (cellsWith g s).count a := by
  cases m with
  | line _ l => rw [l.frame]; rfl
  | lock | start | stop | drained => rw [State.evalTiming_frame]; rfl
  | restart e => exact absurd ⟨e, rfl, rfl⟩ warm
  | opens m _ _ room =>
    have moved := count_tableCells_set s.slots s.put (s.openedSlot m) a
    have none : (s.openedSlot m).cells = [] := by
      rw [Slot.cells, List.flatMap_eq_nil_iff]
      intro n _
      rw [State.openedSlot_record]
      rfl
    have leave := (List.filter_append_perm (fun o : Orphan => o.tag == m.tag) s.orphans).flatMap_right Orphan.cells
    have orphans := List.perm_iff_count.1 leave a
    rw [List.flatMap_append, List.count_append] at orphans
    rw [cells_of_free assembly (State.put_free_of_room ring room), none, List.count_nil] at moved
    rw [count_cellsWith, count_cellsWith, State.openSlot_frame]
    simp only [jobCells, Transit.none, List.flatMap_nil, List.count_nil]
    omega
  | close i c =>
    rw [State.closeSlot_frame]
    refine count_cellsWith_same g ?_ ?_ ?_ ?_ ?_ a
    exacts [records_set rfl, rfl, rfl, rfl, rfl]
  | lose i | finish i | extend i | late i | duplicate i =>
    refine count_cellsWith_same g ?_ ?_ ?_ ?_ ?_ a
    exacts [records_set rfl, rfl, rfl, rfl, rfl]
  | beginFrame =>
    refine count_cellsWith_same g ?_ ?_ ?_ ?_ ?_ a
    exacts [records_set rfl, rfl, rfl, rfl, rfl]
  | sendCell n r sending record =>
    have moved := count_tableCells_set s.slots s.get
      { s.slots.get s.get with records := (s.slots.get s.get).records.set n (some { r with cells := r.cells.drop 1 }) } a
    have cut := Slot.count_cells_set (s.slots.get s.get) n { r with cells := r.cells.drop 1 } (y :=
      { s.slots.get s.get with records := (s.slots.get s.get).records.set n (some { r with cells := r.cells.drop 1 }) }) rfl a
    have chain : (s.slots.get s.get).chain n = r.cells := by rw [Slot.chain, record]; rfl
    have split : r.cells.count a = (r.cells.take 1).count a + (r.cells.drop 1).count a := by
      rw [← List.count_append, List.take_append_drop]
    rw [chain] at cut
    dsimp only at cut moved
    rw [count_cellsWith, count_cellsWith]
    simp only [State.setSlot_slots, State.setSlot_freeQueue, State.setSlot_orphans, State.setSlot_adoption, jobCells,
      State.setSlot_job, List.count_append]
    omega
  | freeSlot e =>
    have moved := count_tableCells_set s.slots s.get Slot.empty a
    rw [Slot.empty_cells, List.count_nil] at moved
    rw [count_cellsWith, count_cellsWith, State.freeSlotAtGet_frame]
    simp only [jobCells, List.count_append]
    omega
  | takeCells k =>
    have split : s.freeQueue.count a = (s.freeQueue.take k).count a + (s.freeQueue.drop k).count a := by
      rw [← List.count_append, List.take_append_drop]
    rw [count_cellsWith, count_cellsWith, State.takeCells_frame]
    simp only [jobCells, List.count_append]
    omega
  | returnCells back rest cells =>
    rw [count_cellsWith, count_cellsWith, State.returnCells_frame, cells]
    simp only [jobCells, List.count_append]
    omega
  | release => rw [State.dropHeld_frame]; rfl
  | orphansLeave gone keep _ leave =>
    have orphans := List.perm_iff_count.1 (leave.flatMap_right Orphan.cells) a
    rw [List.flatMap_append, List.count_append] at orphans
    rw [count_cellsWith, count_cellsWith]
    simp only [jobCells, List.count_append]
    omega
  | park o rest copies =>
    rw [count_cellsWith, count_cellsWith, copies]
    simp only [jobCells, List.flatMap_append, List.flatMap_cons, List.flatMap_nil, List.count_append, List.count_nil]
    omega
  | adoptExpected i o rest copies =>
    rw [count_cellsWith, count_cellsWith, copies]
    simp only [jobCells, State.setSlot_slots, State.setSlot_freeQueue, State.setSlot_orphans, State.setSlot_job,
      List.flatMap_append, List.flatMap_cons, List.flatMap_nil, List.count_append, List.count_nil, Orphan.entry,
        setContrib_tableCells]
    omega
  | adoptCandidate i o rest copies =>
    rw [count_cellsWith, count_cellsWith, copies]
    simp only [jobCells, List.flatMap_append, List.flatMap_cons, List.flatMap_nil, List.count_append, List.count_nil, Orphan.entry]
    omega
  | dropCopy o rest copies =>
    rw [count_cellsWith, count_cellsWith, copies]
    simp only [List.flatMap_cons, List.count_append]
    omega
  | dropEntry e rest queue =>
    rw [count_cellsWith, count_cellsWith, queue]
    simp only [jobCells, List.flatMap_cons, List.count_append]
    omega
  | startPark j _ _ free _ _ fifo _ cells =>
    rw [count_cellsWith, count_cellsWith, jobCells_of_idle free, jobCells_of_job (j := j) rfl, fifo, cells]
    simp only [JobSource.cells, List.append_nil, List.count_nil]
    omega
  | startContribution i n r tag urgent flags _ free =>
    rw [count_cellsWith, count_cellsWith, jobCells_of_idle free, jobCells_of_job (j := newJob r n .fifo i tag urgent flags) rfl]
    dsimp only
    rw [takeContribution_tableCells]
    rfl
  | startExtra i n r tag urgent flags _ free =>
    rw [count_cellsWith, count_cellsWith, jobCells_of_idle free, jobCells_of_job (j := newJob r n .fifo i tag urgent flags) rfl]
    dsimp only
    rw [takeExtra_tableCells]
    rfl
  | startExpected e rest r tag urgent flags queue free =>
    rw [count_cellsWith, count_cellsWith, jobCells_of_idle free,
      jobCells_of_job (j := newJob r e.link (.copy e.cells e.wordCount) e.slot tag urgent flags) rfl, queue]
    dsimp only
    rw [takeContribution_tableCells]
    simp only [newJob, JobSource.cells, List.nil_append, List.flatMap_cons, List.count_append, List.count_nil,
      State.takeContribution, State.setSlot_freeQueue, State.setSlot_orphans]
    omega
  | startCandidate e rest r tag urgent flags queue free =>
    rw [count_cellsWith, count_cellsWith, jobCells_of_idle free,
      jobCells_of_job (j := newJob r e.link (.copy e.cells e.wordCount) e.slot tag urgent flags) rfl, queue]
    dsimp only
    rw [takeExtra_tableCells]
    simp only [newJob, JobSource.cells, List.nil_append, List.flatMap_cons, List.count_append, List.count_nil,
      State.takeExtra, State.setSlot_freeQueue, State.setSlot_orphans]
    omega
  | advance j k job _ source _ cells =>
    rw [count_cellsWith, count_cellsWith, jobCells_of_job job, jobCells_of_job (j := k) rfl, source, cells]
    simp only [List.count_append, List.count_nil]
    omega
  | endCondition j i job =>
    have moved := count_tableCells_set s.slots i ((s.slots.get i).attach j) a
    have attached := (s.slots.get i).count_attach j a
    rw [count_cellsWith, count_cellsWith, jobCells_of_job job, jobCells_of_idle rfl]
    simp only [State.setSlot_slots, State.setSlot_freeQueue, State.setSlot_orphans, State.setSlot_adoption, Transit.none,
      List.count_append, List.count_nil, List.flatMap_nil]
    omega
  | endPark j job park =>
    rw [count_cellsWith, count_cellsWith, jobCells_of_job job, jobCells_of_idle rfl, parks j job park]
    simp only [State.parkedCopy, JobSource.cells, Transit.none, List.flatMap_cons, List.flatMap_nil, List.count_append,
      List.count_nil]
    omega
  | _ => rfl

theorem Move.keeps_cells (m : Move g s h t) (ring : RingSound s) (assembly : AssemblySound s) (parks : ParksFromFifo s)
    (k : (cellsWith g s).Perm allCells) : (cellsWith h t).Perm allCells := by
  by_cases warm : ∃ e, h = .none ∧ t = s.restarted e
  · obtain ⟨e, rfl, rfl⟩ := warm
    rw [cellsWith_restarted]
  · exact (List.perm_iff_count.2 (m.count_cells warm ring assembly parks)).trans k

theorem ownedCells_congr (slots : t.slots = s.slots) (orphans : t.orphans = s.orphans) (adoption : t.adoption = s.adoption)
    (job : t.job = s.job) : ownedCells t = ownedCells s := by
  rw [ownedCells, ownedCells, slots, orphans, adoption, jobCells, jobCells, job]

theorem coldReset_cellsConserved (s : State) : CellsConserved s.coldReset := by
  have free : s.coldReset.freeQueue = State.reset.freeQueue := by rw [State.coldReset]
  have owned : ownedCells s.coldReset = ownedCells State.reset := ownedCells_congr rfl rfl rfl rfl
  rw [CellsConserved, free, owned]
  exact reset_cellsConserved

/-- Settles O14. -/
theorem stepConservesCells : Obligations.StepConservesCells := by
  intro s t ring assembly job cells stepped
  have start : RingSound s ∧ AssemblySound s ∧ ParksFromFifo s ∧ CellsConserved s := ⟨ring, assembly, job.2, cells⟩
  refine (step_keeps (P := fun s => RingSound s ∧ AssemblySound s ∧ ParksFromFifo s ∧ CellsConserved s) (fun _ _ k => k)
    (fun _ _ k => k) (fun u v steps k => ?_)
    (fun u _ => ⟨reset_ringSound, reset_assemblySound, reset_jobSound.2, coldReset_cellsConserved u⟩) start stepped).2.2.2
  obtain ⟨ring, assembly, parks, cells⟩ := k
  obtain ⟨ring, assembly, parks, cells⟩ := steps.keeps
    (P := fun g s => RingSound s ∧ AssemblySound s ∧ ParksFromFifo s ∧ (cellsWith g s).Perm allCells) (fun m k => by
      obtain ⟨ring, assembly, parks, cells⟩ := k
      exact ⟨m.keeps_ringSound ring, m.keeps_assemblySound ring assembly, m.keeps_parksFromFifo parks,
        m.keeps_cells ring assembly parks cells⟩) ⟨ring, assembly, parks, (cellsWith_none u).symm ▸ cells⟩
  rw [cellsWith_none] at cells
  exact ⟨ring, assembly, parks, cells⟩

end Sys2Proof.Machine
end

section
/-! THEOREMS. Every step keeps every chain as long as its words need (O15), and the queues within their capacities and the held
frames the job's (O7). -/

namespace Sys2Proof.Machine

open Sys2Proof.Safety

variable {g h : Transit} {s t : State}

/-! ### Chains -/

/-- The chains of a slot whose frame is not being sent are as long as their words need. -/
def Slot.ChainsFit (x : Slot) : Prop := x.state ≠ .emitting → ∀ n r, x.records.get n = some r → chainFits r.cells r.wordCount

theorem chainsSound_iff : ChainsSound s ↔
    (∀ j, s.job = some j → chainFits j.cells j.wordCount ∧ ∀ cells w, j.source = .copy cells w → chainFits cells w)
      ∧ (∀ o ∈ s.orphans, chainFits o.cells o.wordCount) ∧ (∀ e ∈ s.adoption, chainFits e.cells e.wordCount)
      ∧ ∀ i, (s.slots.get i).ChainsFit :=
  ⟨fun ⟨job, orphans, adoption, table⟩ => ⟨job, orphans, adoption, fun i still n r => table i n r still⟩,
    fun ⟨job, orphans, adoption, table⟩ => ⟨job, orphans, adoption, fun i n r still => table i still n r⟩⟩

theorem chainsSound_setSlot (k : ChainsSound s) {i : SlotNo} {x : Slot} (fit : x.ChainsFit) : ChainsSound (s.setSlot i x) := by
  obtain ⟨job, orphans, adoption, table⟩ := chainsSound_iff.1 k
  refine chainsSound_iff.2 ⟨job, orphans, adoption, fun j => ?_⟩
  rw [State.setSlot_slots, Bank.get_set]
  split
  · exact fit
  · exact table j

/-- A slot that keeps its records, and is being sent if it was. -/
theorem chainsSound_setFields (k : ChainsSound s) {i : SlotNo} {x : Slot} (records : x.records = (s.slots.get i).records)
    (still : x.state ≠ .emitting → (s.slots.get i).state ≠ .emitting) : ChainsSound (s.setSlot i x) := by
  obtain ⟨-, -, -, table⟩ := id k
  exact chainsSound_setSlot k fun e n r here => table i n r (still e) (records ▸ here)

theorem chainsSound_takeContribution (k : ChainsSound s) (i : SlotNo) (n : LinkNo) : ChainsSound (s.takeContribution i n) :=
  chainsSound_setFields k rfl id

theorem chainsSound_takeExtra (k : ChainsSound s) (i : SlotNo) (n : LinkNo) : ChainsSound (s.takeExtra i n) :=
  chainsSound_setFields k rfl id

/-- A conditioning job begins without cells, and what it may read is a chain that fits. -/
theorem chainsSound_newJob (k : ChainsSound s) {l : List Adopted} (sub : l ⊆ s.adoption) {r : Requester} {n : LinkNo}
    {src : JobSource}
    {i : SlotNo} {tag : Tag} {urgent : Bool} {flags : FragFlags} (source : ∀ cells w, src = .copy cells w → chainFits cells w) :
    ChainsSound { s with adoption := l, job := some (newJob r n src i tag urgent flags) } := by
  obtain ⟨-, orphans, adoption, table⟩ := k
  refine ⟨fun j here => ?_, orphans, fun e mem => adoption e (sub mem), table⟩
  rw [← Option.some.inj here]
  exact ⟨show chainFits [] 0 from rfl, source⟩

theorem Slot.attach_chainsFit {x : Slot} {j : Job} (fit : x.ChainsFit) (job : chainFits j.cells j.wordCount) :
    (x.attach j).ChainsFit := by
  intro still n r here
  rw [Slot.attach_state] at still
  have records : (x.attach j).records = x.records.set j.link (some (j.fragment true))
      ∨ (x.attach j).records = x.records.set j.link (some (j.fragment false)) := by
    rw [Slot.attach]
    split
    · exact .inl rfl
    · exact .inr rfl
  rcases records with e | e
  all_goals
    rw [e, Bank.get_set] at here
    split at here
    · rw [← Option.some.inj here]; exact job
    · exact fit still n r here

theorem Move.keeps_chainsSound (m : Move g s h t) (ring : RingSound s)
    (k : ChainsSound s ∧ ∀ o ∈ g.copies, chainFits o.cells o.wordCount) :
    ChainsSound t ∧ ∀ o ∈ h.copies, chainFits o.cells o.wordCount := by
  obtain ⟨chains, copies⟩ := k
  obtain ⟨job, orphans, adoption, table⟩ := id chains
  cases m with
  | line _ l => rw [l.frame]; exact ⟨chains, copies⟩
  | lock | start | stop | drained => rw [State.evalTiming_frame]; exact ⟨chains, copies⟩
  | restart =>
    rw [State.restarted_frame]
    refine ⟨⟨fun j e => (by cases e), fun o mem => absurd mem List.not_mem_nil, fun e mem => absurd mem List.not_mem_nil,
      fun i n r _ here => ?_⟩, copies⟩
    rw [show (State.wiped s _).slots.get i = Slot.empty from Bank.get_fill _ _] at here
    simp [Slot.empty] at here
  | opens m =>
    have opened := chainsSound_setSlot (i := s.put) (x := s.openedSlot m) chains fun _ n r here => by
      cases (s.openedSlot_record m n).symm.trans here
    obtain ⟨job, orphans, adoption, table⟩ := opened
    rw [State.openSlot_frame]
    exact ⟨⟨job, fun o mem => orphans o (List.mem_of_mem_filter mem), adoption, table⟩,
      fun o mem => orphans o (List.mem_of_mem_filter mem)⟩
  | close i c opened =>
    rw [State.closeSlot_frame]
    exact ⟨chainsSound_setFields (i := i) chains rfl fun _ => (Slot.unended_of_isOpen opened).2, copies⟩
  | extend i opened =>
    exact ⟨chainsSound_setFields (i := i) (x := { s.slots.get i with state := .extended }) chains rfl
      fun _ e => SlotState.noConfusion (opened.symm.trans e), copies⟩
  | lose | late | duplicate => exact ⟨chainsSound_setFields chains rfl id, copies⟩
  | finish i closing =>
    exact ⟨chainsSound_setFields chains rfl fun _ e => SlotState.noConfusion (closing.symm.trans e), copies⟩
  | beginFrame => exact ⟨chainsSound_setSlot chains fun still => absurd rfl still, copies⟩
  | sendCell n r sending =>
    exact ⟨chainsSound_setSlot chains fun still => absurd (State.get_emitting ring sending) still, copies⟩
  | freeSlot e =>
    rw [State.freeSlotAtGet_frame]
    refine ⟨chainsSound_setSlot (i := s.get) (x := Slot.empty) chains fun _ n r here => ?_, copies⟩
    simp [Slot.empty] at here
  | takeCells => rw [State.takeCells_frame]; exact ⟨chains, copies⟩
  | returnCells => rw [State.returnCells_frame]; exact ⟨chains, copies⟩
  | release => rw [State.dropHeld_frame]; exact ⟨chains, copies⟩
  | orphansLeave gone keep sub => exact ⟨⟨job, fun o mem => orphans o (sub.subset mem), adoption, table⟩, copies⟩
  | park o rest here =>
    rw [here] at copies
    obtain ⟨first, later⟩ := List.forall_mem_cons.1 copies
    exact ⟨⟨job, fun p mem => (List.mem_append.1 mem).elim (orphans p) fun e => List.mem_singleton.1 e ▸ first, adoption, table⟩,
      later⟩
  | adoptExpected i o rest here =>
    rw [here] at copies
    obtain ⟨first, later⟩ := List.forall_mem_cons.1 copies
    have set := chainsSound_setFields (i := i)
      (x := { s.slots.get i with contribs := (s.slots.get i).contribs.set o.link (some .queued) }) chains rfl id
    obtain ⟨job, orphans, adoption, table⟩ := set
    exact ⟨⟨job, orphans, fun p mem => (List.mem_append.1 mem).elim (adoption p) fun e => List.mem_singleton.1 e ▸ first, table⟩,
      later⟩
  | adoptCandidate i o rest here =>
    rw [here] at copies
    obtain ⟨first, later⟩ := List.forall_mem_cons.1 copies
    exact ⟨⟨job, orphans, fun p mem => (List.mem_append.1 mem).elim (adoption p) fun e => List.mem_singleton.1 e ▸ first, table⟩,
      later⟩
  | dropCopy o rest here =>
    rw [here] at copies
    exact ⟨chains, (List.forall_mem_cons.1 copies).2⟩
  | dropEntry e rest queue =>
    rw [queue] at adoption
    exact ⟨⟨job, orphans, (List.forall_mem_cons.1 adoption).2, table⟩, copies⟩
  | startPark j _ _ _ _ _ fifo _ _ fits =>
    refine ⟨⟨fun j' e => ?_, orphans, adoption, table⟩, copies⟩
    rw [← Option.some.inj e]
    exact ⟨fits, fun cells w copy => by cases fifo.symm.trans copy⟩
  | startContribution i n r tag urgent flags =>
    exact ⟨chainsSound_newJob (chainsSound_takeContribution chains i n) (List.Subset.refl _) fun cells w copy => (by cases copy),
      copies⟩
  | startExtra i n r tag urgent flags =>
    exact ⟨chainsSound_newJob (chainsSound_takeExtra chains i n) (List.Subset.refl _) fun cells w copy => (by cases copy), copies⟩
  | startExpected e rest r tag urgent flags queue =>
    rw [queue] at adoption
    obtain ⟨first, -⟩ := List.forall_mem_cons.1 adoption
    exact ⟨chainsSound_newJob (chainsSound_takeContribution chains e.slot e.link) (queue ▸ List.subset_cons_self ..)
      fun cells w copy => (by cases copy; exact first), copies⟩
  | startCandidate e rest r tag urgent flags queue =>
    rw [queue] at adoption
    obtain ⟨first, -⟩ := List.forall_mem_cons.1 adoption
    exact ⟨chainsSound_newJob (chainsSound_takeExtra chains e.slot e.link) (queue ▸ List.subset_cons_self ..)
      fun cells w copy => (by cases copy; exact first), copies⟩
  | advance j j' here _ source _ _ fits =>
    refine ⟨⟨fun j'' e => ?_, orphans, adoption, table⟩, copies⟩
    rw [← Option.some.inj e, source]
    exact ⟨fits (job j here).1, (job j here).2⟩
  | endCondition j i here =>
    have fit : ((s.slots.get i).attach j).ChainsFit :=
      Slot.attach_chainsFit (fun still n r => table i n r still) (job j here).1
    obtain ⟨-, orphans, adoption, table⟩ := chainsSound_setSlot (i := i) chains fit
    exact ⟨⟨fun j e => (by cases e), orphans, adoption, table⟩, copies⟩
  | endPark j here =>
    exact ⟨⟨fun j e => (by cases e), orphans, adoption, table⟩, fun o mem => List.mem_singleton.1 mem ▸ (job j here).1⟩
  | _ => exact ⟨chains, copies⟩

/-- Settles O15. -/
theorem stepKeepsChainsSound : Obligations.StepKeepsChainsSound := by
  intro s t ring chains stepped
  refine (step_keeps (P := fun s => RingSound s ∧ ChainsSound s) (fun _ _ k => k) (fun _ _ k => k) (fun u v steps k => ?_)
    (fun _ _ => ⟨reset_ringSound, reset_chainsSound⟩) ⟨ring, chains⟩ stepped).2
  obtain ⟨ring, chains, -⟩ := steps.keeps
    (P := fun g s => RingSound s ∧ ChainsSound s ∧ ∀ o ∈ g.copies, chainFits o.cells o.wordCount)
    (fun m k => ⟨m.keeps_ringSound k.1, m.keeps_chainsSound k.1 k.2⟩) ⟨k.1, k.2, fun o mem => absurd mem List.not_mem_nil⟩
  exact ⟨ring, chains⟩

/-! ### The queues -/

/-- The requests are within their capacity; the orphan list has room for the copies in transit and the one of a park job. -/
def QueuesWith (g : Transit) (s : State) : Prop :=
  s.requests.length ≤ 4 ∧ s.orphans.length + g.copies.length + (if parking s then 1 else 0) ≤ 16

theorem parking_of_job {j : Job} (job : s.job = some j) : parking s = (j.outcome == .park) := by rw [parking, job]

theorem parking_of_idle (free : s.job = none) : parking s = false := by rw [parking, free]

/-- Copies go from one place to another, and none is added. -/
theorem queuesWith_of (k : QueuesWith g s) (requests : t.requests = s.requests) (job : t.job = s.job)
    (fewer : t.orphans.length + h.copies.length ≤ s.orphans.length + g.copies.length) : QueuesWith h t := by
  obtain ⟨few, orphans⟩ := k
  have same : parking t = parking s := by rw [parking, parking, job]
  rw [← same] at orphans
  exact ⟨requests ▸ few, (Nat.add_le_add_right fewer _).trans orphans⟩

theorem Move.keeps_queues (m : Move g s h t) (k : QueuesWith g s) : QueuesWith h t := by
  obtain ⟨requests, orphans⟩ := id k
  cases m with
  | line _ l => rw [l.frame]; exact k
  | lock | start | stop | drained => rw [State.evalTiming_frame]; exact k
  | restart => rw [State.restarted_frame]; exact ⟨requests, Nat.zero_le _⟩
  | opens m =>
    have parts := (List.filter_append_perm (fun o : Orphan => o.tag == m.tag) s.orphans).length_eq
    rw [List.length_append] at parts
    rw [State.openSlot_frame]
    exact queuesWith_of k rfl rfl (by rw [add_comm, parts]; exact le_rfl)
  | close => rw [State.closeSlot_frame]; exact k
  | freeSlot => rw [State.freeSlotAtGet_frame]; exact k
  | takeCells => rw [State.takeCells_frame]; exact k
  | returnCells => rw [State.returnCells_frame]; exact k
  | release => rw [State.dropHeld_frame]; exact k
  | enqueueRequest content room =>
    exact ⟨by rw [List.length_append]; exact room, orphans⟩
  | dequeueRequest content rest queue =>
    rw [queue] at requests
    exact ⟨Nat.le_of_succ_le requests, orphans⟩
  | orphansLeave gone keep sub =>
    exact queuesWith_of k rfl rfl (Nat.add_le_add_right sub.length_le _)
  | park o rest copies =>
    refine queuesWith_of k rfl rfl ?_
    rw [copies]
    simp only [List.length_append, List.length_cons, List.length_nil]
    omega
  | adoptExpected i o rest copies | adoptCandidate i o rest copies | dropCopy o rest copies =>
    refine queuesWith_of k rfl rfl ?_
    rw [copies]
    exact Nat.le_succ _
  | startPark j _ copies _ _ room =>
    refine ⟨requests, ?_⟩
    rw [copies, List.length_nil]
    dsimp only
    split <;> omega
  | startContribution _ _ _ _ _ _ _ free | startExtra _ _ _ _ _ _ _ free | startExpected _ _ _ _ _ _ _ free
  | startCandidate _ _ _ _ _ _ _ free =>
    rw [parking_of_idle free] at orphans
    exact ⟨requests, orphans⟩
  | advance j j' job _ _ outcome =>
    rw [parking_of_job job, ← outcome] at orphans
    exact ⟨requests, orphans⟩
  | endCondition j i job outcome =>
    rw [parking_of_job job, outcome] at orphans
    exact ⟨requests, orphans⟩
  | endPark j job outcome =>
    rw [parking_of_job job, outcome] at orphans
    exact ⟨requests, orphans⟩
  | _ => exact k

/-- Moves append no reply. -/
theorem Move.replies_le (m : Move g s h t) : t.replies.length ≤ s.replies.length := by
  cases m with
  | line _ l => rw [l.frame]
  | lock | start | stop | drained => rw [State.evalTiming_frame]
  | restart => rw [State.restarted_frame]; exact le_rfl
  | opens => rw [State.openSlot_frame]
  | close => rw [State.closeSlot_frame]
  | freeSlot => rw [State.freeSlotAtGet_frame]
  | takeCells => rw [State.takeCells_frame]
  | returnCells => rw [State.returnCells_frame]
  | release => rw [State.dropHeld_frame]
  | dropReplies replies fewer => exact fewer
  | _ => exact le_rfl

/-! ### The held frames -/

/-- A link's held frame is the source of the job in progress, or in transit. -/
def HeldWith (g : Transit) (s : State) : Prop :=
  ∀ n, (s.front.get n).held ≠ none ↔ (∃ j, s.job = some j ∧ j.source = .fifo ∧ j.link = n) ∨ g.link = some n

theorem heldWith_none : HeldWith .none s ↔ ∀ n, (s.front.get n).held ≠ none ↔ ∃ j, s.job = some j ∧ j.source = .fifo ∧ j.link = n :=
  forall_congr' fun n => iff_congr Iff.rfl ⟨fun e => e.elim id fun e => (by cases e), Or.inl⟩

/-- What holds a frame while a job is in progress, and while none is. -/
theorem heldWith_of_job {j : Job} (job : s.job = some j) :
    HeldWith g s ↔ ∀ n, (s.front.get n).held ≠ none ↔ (j.source = .fifo ∧ j.link = n) ∨ g.link = some n := by
  refine forall_congr' fun n => iff_congr Iff.rfl (or_congr_left ?_)
  exact ⟨fun ⟨j', here, rest⟩ => Option.some.inj (job.symm.trans here) ▸ rest, fun rest => ⟨j, job, rest⟩⟩

theorem heldWith_of_idle (free : s.job = none) : HeldWith g s ↔ ∀ n, (s.front.get n).held ≠ none ↔ g.link = some n := by
  refine forall_congr' fun n => iff_congr Iff.rfl (or_iff_right fun ⟨j, here, _⟩ => ?_)
  cases free.symm.trans here

theorem State.dropHeld_front (s : State) (n m : LinkNo) :
    ((s.dropHeld n).front.get m).held = if m = n then none else (s.front.get m).held := by
  rw [dropHeld, evalFront_eq, setFront_front, Bank.get_set]
  split
  · rw [decided_held, setFront_front, Bank.get_set_self]
  · next e => rw [setFront_front, Bank.get_set_ne _ _ e]

theorem Move.keeps_held (m : Move g s h t) (parks : ParksFromFifo s) (k : HeldWith g s) : HeldWith h t := by
  cases m with
  | line _ l =>
    rw [l.frame]
    exact fun n => (by rw [l.held n] : (t.front.get n).held ≠ none ↔ (s.front.get n).held ≠ none).trans (k n)
  | lock | start | stop | drained => rw [State.evalTiming_frame]; exact k
  | restart =>
    rw [State.restarted_frame]
    refine (heldWith_of_idle rfl).2 fun n => ⟨fun e => absurd ?_ e, fun e => by cases e⟩
    show ((s.front.map FrontLink.warm).get n).held = none
    rw [Bank.get_map]
    rfl
  | opens => rw [State.openSlot_frame]; exact k
  | close => rw [State.closeSlot_frame]; exact k
  | freeSlot => rw [State.freeSlotAtGet_frame]; exact k
  | takeCells => rw [State.takeCells_frame]; exact k
  | returnCells => rw [State.returnCells_frame]; exact k
  | grant n frame rest link _ free =>
    refine (heldWith_of_idle (by exact free)).2 fun m => ?_
    rw [State.setFront_front, Bank.get_set]
    by_cases e : m = n
    · subst e; simp [FrontLink.granting]
    · rw [if_neg e, (heldWith_of_idle free).1 k m, link]
      simp [Ne.symm e]
  | noticed n =>
    intro m
    refine Iff.trans ?_ (k m)
    rw [State.setFront_front, Bank.get_set]
    split
    · next e => rw [e]
    · rfl
  | release n link free =>
    have idle : (s.dropHeld n).job = none := by rw [State.dropHeld_frame]; exact free
    refine (heldWith_of_idle idle).2 fun m => ?_
    rw [State.dropHeld_front]
    split
    · exact ⟨fun e => absurd rfl e, fun e => by cases e⟩
    · next other =>
      rw [(heldWith_of_idle free).1 k m, link]
      simp [Ne.symm other]
  | startPark j link _ free _ _ fifo =>
    refine (heldWith_of_job rfl).2 fun m => ((heldWith_of_idle free).1 k m).trans ?_
    rw [link]
    simp [fifo]
  | startContribution i n r tag urgent flags link free | startExtra i n r tag urgent flags link free =>
    refine (heldWith_of_job rfl).2 fun m => ((heldWith_of_idle free).1 k m).trans ?_
    rw [link]
    simp [newJob]
  | startExpected e rest r tag urgent flags _ free | startCandidate e rest r tag urgent flags _ free =>
    refine (heldWith_of_job rfl).2 fun m => ((heldWith_of_idle free).1 k m).trans ?_
    simp [newJob]
  | advance j j' job link source =>
    refine (heldWith_of_job rfl).2 fun m => ((heldWith_of_job job).1 k m).trans ?_
    rw [link, source]
  | endCondition j i job =>
    refine (heldWith_of_idle rfl).2 fun m => ((heldWith_of_job job).1 k m).trans ?_
    rw [Job.heldLink]
    cases j.source <;> simp [Transit.none]
  | endPark j job park =>
    refine (heldWith_of_idle rfl).2 fun m => ((heldWith_of_job job).1 k m).trans ?_
    simp [parks j job park, Transit.none]
  | _ => exact k

/-- What the moves of an event keep of the queues and the held frames. -/
theorem Steps.keeps_queues (steps : Steps s t) (queues : QueuesBounded s) (job : JobSound s) :
    (QueuesBounded t ∧ t.replies.length ≤ s.replies.length) ∧ JobSound t := by
  obtain ⟨requests, replies, orphans⟩ := queues
  obtain ⟨held, parks⟩ := job
  obtain ⟨⟨requests', orphans'⟩, fewer, parks', held'⟩ := steps.keeps
    (P := fun g u => QueuesWith g u ∧ u.replies.length ≤ s.replies.length ∧ ParksFromFifo u ∧ HeldWith g u) (fun m k => by
      obtain ⟨queues, fewer, parks, held⟩ := k
      exact ⟨m.keeps_queues queues, m.replies_le.trans fewer, m.keeps_parksFromFifo parks, m.keeps_held parks held⟩)
    ⟨⟨requests, orphans⟩, le_rfl, parks, heldWith_none.2 held⟩
  exact ⟨⟨⟨requests', fewer.trans replies, orphans'⟩, fewer⟩, heldWith_none.1 held', parks'⟩

/-- Settles O7. A reply joins the queue only where it has room (R166). -/
theorem stepKeepsQueuesBoundedAndJobSound : Obligations.StepKeepsQueuesBoundedAndJobSound := by
  intro s t queues job stepped
  rw [step] at stepped
  split at stepped
  · obtain rfl := Host.Outcome.next.inj stepped
    obtain ⟨⟨queues, -⟩, job⟩ := s.tick_steps.keeps_queues queues job
    exact ⟨queues, job⟩
  · next c rest _ =>
    by_cases reset : c = .coldReset
    · subst reset
      obtain rfl := Host.Outcome.next.inj stepped
      exact ⟨⟨Nat.zero_le _, Nat.zero_le _, Nat.zero_le _⟩, reset_jobSound⟩
    · obtain ⟨u, executed, v, steps, result⟩ := exec_event { s with pending := rest } reset
      obtain rfl := Host.Outcome.next.inj (executed.symm.trans stepped)
      obtain ⟨⟨queues, fewer⟩, job⟩ := steps.keeps_queues queues job
      obtain rfl | ⟨room, r, rfl⟩ := result
      · exact ⟨queues, job⟩
      · obtain ⟨requests, -, orphans⟩ := queues
        refine ⟨⟨requests, ?_, orphans⟩, job⟩
        rw [List.length_append]
        exact fewer.trans_lt room

end Sys2Proof.Machine
end

section
/-! THEOREMS. Every step keeps the sparse memories canonical and every stored value within its range (O8). -/

namespace Sys2Proof.Machine

open Sys2Proof.Safety

variable {g h : Transit} {s t : State}

/-! ### The memories and the counters -/

theorem State.bumpOption_frame (s : State) (c : Option Counter) :
    s.bumpOption c = { s with counters := (s.bumpOption c).counters } := by cases c <;> rfl

/-- The counters are canonical and within their limit. -/
def CountersSound (s : State) : Prop := Memory.wf 0 s.counters = true ∧ CountersBounded s

theorem countersSound_bumpBy (k : CountersSound s) (c : Counter) (n : Nat) : CountersSound (s.bumpBy c n) := by
  obtain ⟨canonical, bounded⟩ := k
  refine ⟨State.wf_bumpBy s c n canonical, fun a => ?_⟩
  rw [State.bumpBy_counters, Memory.read_write _ _ _ canonical]
  split
  · exact Nat.min_le_left _ _
  · exact bounded a

theorem countersSound_bumpOption (k : CountersSound s) (c : Option Counter) : CountersSound (s.bumpOption c) := by
  cases c with
  | none => exact k
  | some c => exact countersSound_bumpBy k c 1

theorem Move.keeps_countersSound (m : Move g s h t) (k : CountersSound s) : CountersSound t := by
  cases m with
  | line _ l => rw [l.frame]; exact k
  | count c n => exact countersSound_bumpBy k c n
  | clearCounters => exact ⟨rfl, fun _ => Nat.zero_le _⟩
  | lock | start | stop | drained => rw [State.evalTiming_frame]; exact k
  | restart => rw [State.restarted_frame]; exact k
  | opens => rw [State.openSlot_frame]; exact k
  | close i c =>
    exact countersSound_bumpOption
      (s := (s.setSlot i ((s.slots.get i).close c)).setDeadline i { s.deadlines.get i with stage := .none }) k c.counter
  | extend => exact countersSound_bumpBy k (.part .extensions) 1
  | freeSlot => rw [State.freeSlotAtGet_frame]; exact k
  | takeCells => rw [State.takeCells_frame]; exact k
  | returnCells => rw [State.returnCells_frame]; exact k
  | release => rw [State.dropHeld_frame]; exact k
  | _ => exact k

/-- The other sparse memories. -/
def TablesCanonical (s : State) : Prop :=
  Memory.wf Pad.cold s.pads = true ∧ Memory.wf 0 s.store = true ∧ Memory.wf AccEntry.cold s.acc = true

theorem Move.keeps_tablesCanonical (m : Move g s h t) (k : TablesCanonical s) : TablesCanonical t := by
  obtain ⟨pads, store, acc⟩ := id k
  cases m with
  | line _ l => rw [l.frame]; exact k
  | setPad a p => exact ⟨Memory.wf_write _ _ pads, store, acc⟩
  | startAcc => exact ⟨pads, store, rfl⟩
  | addSamples a raws => exact ⟨pads, store, Memory.wf_write _ _ acc⟩
  | writeStore l => exact ⟨pads, Memory.wf_writeAll _ store, acc⟩
  | lock | start | stop | drained => rw [State.evalTiming_frame]; exact k
  | restart => rw [State.restarted_frame]; exact k
  | opens => rw [State.openSlot_frame]; exact k
  | close => rw [State.closeSlot_frame]; exact k
  | freeSlot => rw [State.freeSlotAtGet_frame]; exact k
  | takeCells => rw [State.takeCells_frame]; exact k
  | returnCells => rw [State.returnCells_frame]; exact k
  | release => rw [State.dropHeld_frame]; exact k
  | _ => exact k

/-! ### The settings -/

/-- An entry of a bank replaced by one that meets what every entry meets. -/
theorem Bank.forall_set {α : Type} {n : Nat} {b : Bank α n} {p : α → Prop} (all : ∀ i, p (b.get i)) {i : Fin n} {a : α} (new : p a)
    (k : Fin n) : p ((b.set i a).get k) := by
  rw [Bank.get_set]
  split
  · exact new
  · exact all k

theorem Move.keeps_settingsInRange (m : Move g s h t) (canonical : Memory.wf Pad.cold s.pads = true) (k : SettingsInRange s) :
    SettingsInRange t := by
  obtain ⟨general, classes, offsets, rows, windows, pads⟩ := id k
  cases m with
  | line _ l => rw [l.frame]; exact k
  | setGeneral new range => exact ⟨range, classes, offsets, rows, windows, pads⟩
  | setOffset n o low high =>
    exact ⟨general, classes, Bank.forall_set (p := fun o => -64 ≤ o ∧ o ≤ 63) offsets ⟨low, high⟩, rows, windows, pads⟩
  | setClass c entry range => exact ⟨general, Bank.forall_set classes range, offsets, rows, windows, pads⟩
  | setWindow i w range => exact ⟨general, classes, offsets, rows, Bank.forall_set windows range, pads⟩
  | setRow r n range => exact ⟨general, classes, offsets, Bank.forall_set (p := fun n => n ≤ 192) rows range, windows, pads⟩
  | setPad a p range =>
    refine ⟨general, classes, offsets, rows, windows, fun b => ?_⟩
    rw [Memory.read_write _ _ _ canonical]
    split
    · exact range (pads a)
    · exact pads b
  | lock | start | stop | drained => rw [State.evalTiming_frame]; exact k
  | restart => rw [State.restarted_frame]; exact k
  | opens => rw [State.openSlot_frame]; exact k
  | close => rw [State.closeSlot_frame]; exact k
  | freeSlot => rw [State.freeSlotAtGet_frame]; exact k
  | takeCells => rw [State.takeCells_frame]; exact k
  | returnCells => rw [State.returnCells_frame]; exact k
  | release => rw [State.dropHeld_frame]; exact k
  | _ => exact k

/-! ### The counts -/

/-- An accumulator entry has at most 65,535 samples, each of at most 1,022 (R146, R150, R151). -/
def AccEntry.InRange (e : AccEntry) : Prop := e.count ≤ 65535 ∧ e.sum ≤ 1022 * e.count

theorem AccEntry.add_inRange {e : AccEntry} (k : e.InRange) {raw : Nat} (small : raw ≤ 1023) : (e.add raw).InRange := by
  have overflow : Config.overflowCode = 1023 := rfl
  have limit : Config.accumulatorMax = 65535 := rfl
  obtain ⟨count, sum⟩ := id k
  rw [AccEntry.add]
  split
  · exact k
  · next fits =>
    rw [not_or] at fits
    refine ⟨?_, ?_⟩ <;> dsimp only <;> omega

theorem AccEntry.addAll_inRange {e : AccEntry} (k : e.InRange) {raws : List Nat} (small : ∀ raw ∈ raws, raw ≤ 1023) :
    (e.addAll raws).InRange := by
  rw [AccEntry.addAll]
  induction raws generalizing e with
  | nil => exact k
  | cons raw rest ih =>
    obtain ⟨first, later⟩ := List.forall_mem_cons.1 small
    exact ih (AccEntry.add_inRange k first) later

/-- A slot's counts are within their limits (R12, R13, R68). -/
def Slot.CountsFit (x : Slot) : Prop := x.late ≤ 255 ∧ x.duplicate ≤ 255 ∧ x.skippedBefore ≤ 65535

theorem Move.keeps_countsInRange (m : Move g s h t) (canonical : Memory.wf AccEntry.cold s.acc = true) (k : CountsInRange s) :
    CountsInRange t := by
  obtain ⟨acc, slots, skipped⟩ := id k
  have set {i : SlotNo} {x : Slot} (fit : x.CountsFit) (j : SlotNo) : Slot.CountsFit ((s.slots.set i x).get j) :=
    Bank.forall_set slots fit j
  cases m with
  | line _ l => rw [l.frame]; exact k
  | startAcc => exact ⟨fun _ => ⟨Nat.zero_le _, Nat.zero_le _⟩, slots, skipped⟩
  | addSamples a raws small =>
    refine ⟨fun b => ?_, slots, skipped⟩
    rw [Memory.read_write _ _ _ canonical]
    split
    · exact AccEntry.addAll_inRange (acc a) small
    · exact acc b
  | skip => exact ⟨acc, slots, Nat.min_le_left _ _⟩
  | start =>
    rw [State.evalTiming_frame]
    exact ⟨acc, slots, Nat.zero_le _⟩
  | lock | stop | drained => rw [State.evalTiming_frame]; exact k
  | restart =>
    rw [State.restarted_frame]
    refine ⟨acc, fun i => ?_, Nat.zero_le _⟩
    rw [show (State.wiped s _).slots.get i = Slot.empty from Bank.get_fill _ _]
    exact ⟨Nat.zero_le _, Nat.zero_le _, Nat.zero_le _⟩
  | opens m =>
    rw [State.openSlot_frame]
    exact ⟨acc, set (x := s.openedSlot m) ⟨Nat.zero_le _, Nat.zero_le _, skipped⟩, Nat.zero_le _⟩
  | close i c =>
    rw [State.closeSlot_frame]
    exact ⟨acc, set (x := (s.slots.get i).close c) (slots i), skipped⟩
  | lose i | finish i | extend i => exact ⟨acc, set (i := i) (slots i), skipped⟩
  | late i =>
    obtain ⟨-, duplicate, before⟩ := slots i
    exact ⟨acc, set (i := i) ⟨Nat.min_le_left _ _, duplicate, before⟩, skipped⟩
  | duplicate i =>
    obtain ⟨late, -, before⟩ := slots i
    exact ⟨acc, set (i := i) ⟨late, Nat.min_le_left _ _, before⟩, skipped⟩
  | beginFrame | sendCell => exact ⟨acc, set (slots s.get), skipped⟩
  | freeSlot =>
    rw [State.freeSlotAtGet_frame]
    exact ⟨acc, set (x := Slot.empty) ⟨Nat.zero_le _, Nat.zero_le _, Nat.zero_le _⟩, skipped⟩
  | takeCells => rw [State.takeCells_frame]; exact k
  | returnCells => rw [State.returnCells_frame]; exact k
  | release => rw [State.dropHeld_frame]; exact k
  | adoptExpected i | startContribution i | startExtra i => exact ⟨acc, set (slots i), skipped⟩
  | startExpected e | startCandidate e => exact ⟨acc, set (slots e.slot), skipped⟩
  | endCondition j i =>
    have fit : ((s.slots.get i).attach j).CountsFit := by
      rw [Slot.attach]
      split <;> exact slots i
    exact ⟨acc, set fit, skipped⟩
  | _ => exact k

/-- Settles O8. The words of the store stay at a cold reset (R145), so their form is kept there too. -/
theorem stepKeepsStoredValuesInRange : Obligations.StepKeepsStoredValuesInRange := by
  intro s t memories counters settings counts stepped
  obtain ⟨wf, pads, store, acc⟩ := memories
  have kept := step_keeps (P := fun s => CountersSound s ∧ TablesCanonical s ∧ SettingsInRange s ∧ CountsInRange s) (fun _ _ k => k)
    (fun _ _ k => k)
    (fun u v steps k => steps.keeps (P := fun _ s => CountersSound s ∧ TablesCanonical s ∧ SettingsInRange s ∧ CountsInRange s)
      (fun m k => by
        obtain ⟨counters, tables, settings, counts⟩ := k
        exact ⟨m.keeps_countersSound counters, m.keeps_tablesCanonical tables, m.keeps_settingsInRange tables.1 settings,
          m.keeps_countsInRange tables.2.2 counts⟩) k)
    (fun u k => ⟨⟨rfl, fun _ => Nat.zero_le _⟩, ⟨rfl, k.2.1.2.1, rfl⟩, reset_settingsInRange, reset_countsInRange⟩)
    ⟨⟨wf, counters⟩, ⟨pads, store, acc⟩, settings, counts⟩ stepped
  obtain ⟨⟨wf, counters⟩, ⟨pads, store, acc⟩, settings, counts⟩ := kept
  exact ⟨⟨wf, pads, store, acc⟩, counters, settings, counts⟩

end Sys2Proof.Machine
end

section
/-! THEOREMS. The queue of commands, counters, flow symbols, correction, and the cold reset (O1, O4, O18, O19, O42). -/

namespace Sys2Proof.Machine

variable {s : State}

/-- Settles O1, by the definition of a step on a queue that is not empty. -/
theorem stepRunsTheFrontCommand : Obligations.StepRunsTheFrontCommand := by
  intro c rest s queued
  rw [step, queued]

theorem State.coldReset_freeQueue (s : State) : s.coldReset.freeQueue = List.range 8192 := by
  rw [coldReset, reset, allCells, Config.cellCount]

/-- Settles O4: the cold reset values are those of the state after power-up. -/
theorem coldResetGivesTheColdResetValues : Obligations.ColdResetGivesTheColdResetValues := by
  intro s
  have fronts (n : LinkNo) : s.coldReset.front.get n = FrontLink.cold := Bank.get_fill _ _
  refine ⟨s.coldReset, rfl, rfl, rfl, rfl, rfl, rfl, fun _ => rfl, rfl, fun k => Bank.get_fill _ k, fun n => Bank.get_fill _ n,
    fun i => ?_, fun r => Bank.get_fill _ r, fun _ => rfl, rfl, fun _ => rfl, fun n => ?_, rfl, rfl, rfl, rfl, rfl, rfl, rfl, rfl,
      rfl,
    fun i => ?_, rfl, rfl, rfl, rfl, s.coldReset_freeQueue, rfl, rfl, rfl, rfl, rfl, rfl, rfl, ?_⟩
  · rw [show s.coldReset.windows.get i = MapWindow.cold from Bank.get_fill _ i]; rfl
  · rw [fronts]; exact ⟨rfl, rfl, rfl, rfl, rfl, rfl, rfl, rfl⟩
  · exact ⟨by rw [show s.coldReset.slots.get i = Slot.empty from Bank.get_fill _ i]; rfl,
      by rw [show s.coldReset.deadlines.get i = Deadline.empty from Bank.get_fill _ i]; rfl⟩
  · rw [State.coldReset, State.reset]

/-! ### Counters (R180) -/

theorem Counter.entry_lt (c : Counter) : c.entry < 575 := by
  cases c with
  | link k n => have := k.number_lt; have := n.isLt; rw [entry]; omega
  | admitted k => have := k.isLt; rw [entry]; omega
  | refusedLevel k => have := k.isLt; rw [entry]; omega
  | part p => cases p <;> decide

/-- Settles O18: a counter is a cell of a canonical memory, and its entry is its own. -/
theorem countersRiseByOneAndStop : Obligations.CountersRiseByOneAndStop := by
  refine ⟨fun s c k canonical => ⟨s.counter_bumpBy_self c k canonical.1, fun d other => s.counter_bumpBy_ne k other, c.entry_lt,
    rfl, rfl⟩,
    fun _ _ => rfl, fun n => ?_, fun k => ⟨rfl, rfl⟩, rfl⟩
  simp [Counter.entry, LinkCounter.number, List.range, List.range.loop]

/-! ### Flow symbols (R70, R71, R88, R89, R93) -/

theorem frontDecision_eq (k : Nat) (f : Flow) :
    frontDecision k f = if 6144 ≤ k then Flow.hold else if k ≤ 2048 then Flow.go else f := rfl

/-- The two rows of R70 that give HOLD, taken together. -/
theorem timingDecision_eq (run : RunState) (g : General) (fill free : Nat) (f : Flow) :
    timingDecision run g fill free f =
      if run ≠ .running ∨ g.eventHold ≤ fill ∨ free < g.cellHold then Flow.hold
      else if fill ≤ g.eventRelease ∧ g.cellResume ≤ free then Flow.go
      else f := by
  rw [timingDecision]
  split_ifs <;> first | rfl | (exfalso; tauto)

theorem State.wordBoundary_eq (s : State) (l : Lane) : s.wordBoundary l = Spec.boundary s l := by
  cases l <;> rfl

/-- Settles O19: the decisions and the word boundary of the machine are those of the tables. -/
theorem flowSymbolsFollowTheTables : Obligations.FlowSymbolsFollowTheTables := by
  refine ⟨fun s n => ⟨rfl, fun same => ?_, fun changed => ?_⟩, fun s => ?_, State.wordBoundary_eq⟩
  · rw [← frontDecision_eq] at same
    exact if_pos same
  · rw [← frontDecision_eq] at changed
    exact if_neg changed
  · dsimp only
    rw [← timingDecision_eq]
    exact ⟨fun same => if_pos same, fun changed => if_neg changed⟩

/-! ### Correction (R121) -/

/-- Settles O42: a quotient rounded down after half of the divisor was added. -/
theorem correctionRoundsHalfUp : Obligations.CorrectionRoundsHalfUp := by
  intro pedestal gain raw
  have below {raw : Nat} (small : raw < 1023) : raw ≠ Config.overflowCode := fun e => absurd (e ▸ small) (by decide)
  refine ⟨rfl, ?_, fun small low => ?_, fun small high => ?_⟩
  · rw [correct]
    split_ifs
    · exact Nat.le_refl _
    · exact Nat.zero_le _
    · exact Nat.min_le_left _ _
  · rw [correct, if_neg (below small), if_pos low]
  · rw [correct, if_neg (below small), if_neg (Nat.not_le.2 high), Config.overflowCode]
    omega

end Sys2Proof.Machine
end

section
/-! THEOREMS. What the line brings to a receiver that is not in a frame, and the opening of a frame (O21, O22, O23). -/

namespace Sys2Proof.Machine

variable {s before : State} {l : Lane} {n : LinkNo}

/-! ### A word boundary, and a code after it -/

theorem State.boundary_rx (s : State) (l m : Lane) : (Spec.boundary s l).rx m = s.rx m := by
  rw [← wordBoundary_eq, wordBoundary_rx]

theorem State.boundary_due (s : State) (n : LinkNo) : ((Spec.boundary s (.front n)).front.get n).due = .none := by
  rw [← wordBoundary_eq, wordBoundary_front, if_pos rfl]

theorem State.boundary_timingDue (s : State) : (Spec.boundary s .timing).timingDue = .none := by
  rw [← wordBoundary_eq, wordBoundary]
  split
  · next none => exact none
  · rw [sendFlow]
    split <;> rfl

theorem exec_linkIdle : exec (.linkIdle l) before = .next ((Spec.boundary before l).idle l) := by cases l <;> rfl

theorem exec_linkCodeError : exec (.linkCodeError l) before = .next ((Spec.boundary before l).codeError l) := by cases l <;> rfl

theorem exec_linkStart :
    exec (.linkStart l) before = .next ((Spec.boundary before l).onValidCode l fun t => t.startLive l) := by cases l <;> rfl

theorem exec_linkDataWord {w : Word} :
    exec (.linkDataWord l w) before = .next ((Spec.boundary before l).onValidCode l fun t => t.dataLive l w) := by cases l <;> rfl

theorem exec_linkEnd :
    exec (.linkEnd l) before = .next ((Spec.boundary before l).onValidCode l fun t => t.endLive l) := by cases l <;> rfl

theorem exec_linkCut :
    exec (.linkCut l) before = .next ((Spec.boundary before l).onValidCode l fun t => t.cutLive l) := by cases l <;> rfl

theorem exec_farmFlowSymbol {f : Flow} :
    exec (.farmFlowSymbol f) before = .next ((Spec.boundary before .uplink).onValidCode .uplink fun t => t.farmFlowLive f) := rfl

theorem exec_inboundFlowSymbol {f : Flow} (inbound : l ≠ .uplink) :
    exec (.inboundFlowSymbol l f) before = .next ((Spec.boundary before l).onValidCode l id) := by
  cases l with
  | front n => rfl
  | timing => rfl
  | uplink => exact absurd rfl inbound

/-- A code but IDLE, a code error and SYMBOL_LOCK is a valid code that its row gives a meaning in LIVE. -/
theorem exec_of_arrivesOn {c : Instr} (arrives : Spec.arrivesOn l c) :
    ∃ live, exec c before = .next ((Spec.boundary before l).onValidCode l live) := by
  obtain rfl | ⟨w, rfl⟩ | rfl | rfl | ⟨inbound, f, rfl⟩ | ⟨rfl, f, rfl⟩ := arrives
  · exact ⟨_, exec_linkStart⟩
  · exact ⟨_, exec_linkDataWord⟩
  · exact ⟨_, exec_linkEnd⟩
  · exact ⟨_, exec_linkCut⟩
  · exact ⟨_, exec_inboundFlowSymbol inbound⟩
  · exact ⟨_, exec_farmFlowSymbol⟩

/-! ### A valid code by link state (R76, R77) -/

theorem State.onValidCode_live {live : State → State} (up : (s.rx l).link = .live) :
    s.onValidCode l live = live (Spec.cleared s l) := by
  rw [onValidCode, up]; rfl

theorem State.onValidCode_aligning {live : State → State} (aligning : (s.rx l).link = .aligning) :
    s.onValidCode l live = s.setRx l { s.rx l with idleCount := 0 } := by
  rw [onValidCode, aligning]

theorem State.onValidCode_down {live : State → State} (down : (s.rx l).link = .dark ∨ (s.rx l).link = .barred) :
    s.onValidCode l live = s := by
  rw [onValidCode]
  obtain e | e := down <;> rw [e]

theorem State.idle_down (down : (s.rx l).link = .dark ∨ (s.rx l).link = .barred) : s.idle l = s := by
  rw [idle]
  obtain e | e := down <;> rw [e]

theorem State.codeError_down (down : (s.rx l).link = .dark ∨ (s.rx l).link = .barred) : s.codeError l = s := by
  rw [codeError]
  obtain e | e := down <;> rw [e]

theorem State.idle_live (live : (s.rx l).link = .live) : s.idle l = Spec.cleared s l := by
  rw [idle, live]; rfl

theorem State.idle_aligning (aligning : (s.rx l).link = .aligning) (early : (s.rx l).idleCount + 1 < 64) :
    s.idle l = s.setRx l { s.rx l with idleCount := (s.rx l).idleCount + 1 } := by
  rw [idle, aligning]
  exact if_neg (Nat.not_le.2 early)

theorem State.idle_last (aligning : (s.rx l).link = .aligning) (last : (s.rx l).idleCount + 1 = 64) : s.idle l = s.enterLive l := by
  rw [idle, aligning]
  exact if_pos (Nat.le_of_eq last.symm)

/-- Settles O21: the cases of the link state, on the state that the word boundary before the code leaves. -/
theorem receiverStatesMoveAsTheLineGoes : Obligations.ReceiverStatesMoveAsTheLineGoes := by
  intro before l s r
  refine ⟨fun dark => congrArg _ (if_pos dark), fun other => congrArg _ (if_neg other), fun aligning early => ?_,
    fun c arrives aligning => ?_, fun c arrives down => ?_, fun live => ?_, fun f inbound live => ?_, fun aligning last => ?_⟩
  · rw [exec_linkIdle, State.idle_aligning aligning early]
  · obtain ⟨live, executed⟩ := exec_of_arrivesOn (before := before) arrives
    rw [executed, State.onValidCode_aligning aligning]
  · obtain arrives | rfl | rfl := arrives
    · obtain ⟨live, executed⟩ := exec_of_arrivesOn (before := before) arrives
      rw [executed, State.onValidCode_down down]
    · rw [exec_linkIdle, State.idle_down down]
    · rw [exec_linkCodeError, State.codeError_down down]
  · rw [exec_linkIdle, State.idle_live live]
  · rw [exec_inboundFlowSymbol inbound, State.onValidCode_live live]; rfl
  · dsimp only
    cases l with
    | front n =>
      have due : (s.front.get n).due = .none := before.boundary_due n
      rw [exec_linkIdle, State.idle_last aligning last, State.enterLive]
      simp only [State.setRx, State.setFront, Bank.get_set_self, Bank.set_set]
      rw [show ((Spec.boundary before (.front n)).front.get n).due = .none from due]
      rfl
    | timing =>
      have due : s.timingDue = .none := before.boundary_timingDue
      rw [exec_linkIdle, State.idle_last aligning last, State.enterLive]
      dsimp only [State.setRx]
      rw [show (Spec.boundary before .timing).timingDue = .none from due]
      rfl
    | uplink => rw [exec_linkIdle, State.idle_last aligning last]; rfl

/-- Settles O22: a held event frame sends nothing, and a symbol that repeats the farm flow state changes nothing. -/
theorem farmFlowSymbolsHoldAndResume : Obligations.FarmFlowSymbolsHoldAndResume := by
  refine ⟨fun s f live => ?_, fun s held => ⟨?_, ?_⟩⟩
  · have executed : exec (.farmFlowSymbol f) s = .next ((Spec.cleared s .uplink).farmFlowLive f) := by
      rw [exec_farmFlowSymbol, State.onValidCode_live (l := .uplink) (s := Spec.boundary s .uplink) live]; rfl
    refine ⟨fun same => ?_, fun go hold => ?_, fun hold go => ?_⟩
    · rw [executed, State.farmFlowLive, if_pos (show f = (Spec.cleared s .uplink).farmFlow from same)]
    · subst hold
      rw [executed, State.farmFlowLive,
        if_neg (show Flow.hold ≠ (Spec.cleared s .uplink).farmFlow from fun e => by cases e.trans go)]
      simp only [and_true, if_true]
      rfl
    · subst go
      rw [executed, State.farmFlowLive,
        if_neg (show Flow.go ≠ (Spec.cleared s .uplink).farmFlow from fun e => by cases e.trans hold)]
      simp only [reduceCtorEq, and_false, decide_false, if_false]
      rfl
  · show Host.Outcome.next s.eventFrameWordSent = .next s
    rw [State.eventFrameWordSent]
    simp [held]
  · show Host.Outcome.next s.eventFrameEnd = .next s
    rw [State.eventFrameEnd]
    simp [held]

/-! ### A frame opens, and a frame is given up -/

theorem State.stallNow_eq (s : State) (l : Lane) : s.stallNow l = Spec.stallFromNow s l := by
  cases l with
  | front n => cases flow : (s.front.get n).flow <;> simp [stallNow, stallRuns, flow, Spec.stallFromNow, stallExpiry,
    Spec.inMicroseconds]
  | timing => rfl
  | uplink => rfl

theorem State.cleared_stallNow (s : State) (l : Lane) : (Spec.cleared s l).stallNow l = Spec.stallFromNow s l := by
  rw [← s.stallNow_eq]
  cases l with
  | front n => simp [Spec.cleared, setRx, stallNow, stallRuns]; rfl
  | timing => rfl
  | uplink => rfl

theorem State.cleared_rx (s : State) (l : Lane) : (Spec.cleared s l).rx l = { s.rx l with codeErrors := 0 } := setRx_rx_self _ _ _

theorem State.openFrame_eq (noErrors : (s.rx l).codeErrors = 0) : s.openFrame l = Spec.frameOpened s l := by
  rw [openFrame, Spec.frameOpened, stallNow_eq, ← noErrors]; rfl

theorem State.openFrame_cleared (s : State) (l : Lane) : (Spec.cleared s l).openFrame l = Spec.frameOpened s l := by
  rw [openFrame, cleared_rx, cleared_stallNow, Spec.cleared, setRx_setRx]; rfl

theorem State.leaveFrame_front (s : State) (n : LinkNo) (next : FrameState) :
    s.leaveFrame (.front n) next = Spec.frameLeaves s n next := rfl

theorem State.leaveFrame_timing (s : State) (next : FrameState) :
    s.leaveFrame .timing next = { s with timing := { s.timing with frame := next, words := [], crc := 0xFFFF, stall := none } } :=
  ite_self _

theorem State.leaveFrame_uplink (s : State) (next : FrameState) :
    s.leaveFrame .uplink next = { s with uplink := { s.uplink with frame := next, words := [], crc := 0xFFFF, stall := none } } :=
  ite_self _

theorem State.decided_codeErrors (s : State) (f : FrontLink) : (s.decided f).rx.codeErrors = f.rx.codeErrors := by
  rw [decided]; split <;> rfl

theorem State.frameLeaves_codeErrors (s : State) (n : LinkNo) (next : FrameState) :
    ((Spec.frameLeaves s n next).front.get n).rx.codeErrors = (s.front.get n).rx.codeErrors := by
  rw [Spec.frameLeaves]
  dsimp only
  split
  · simp
  · rw [evalFront_eq, setFront_front, Bank.get_set_self, decided_codeErrors]; simp

theorem State.startLive_quiet (quiet : (s.rx l).frame ≠ .receiving) : s.startLive l = s.openFrame l := if_neg quiet

theorem State.startLive_receiving (receiving : (s.rx l).frame = .receiving) :
    s.startLive l = ((s.leaveFrame l .discarding).countMisplacedStart l).openFrame l := if_pos receiving

/-- Settles O23: a START at a LIVE receiver, by the frame state it finds. -/
theorem startOpensAFrame : Obligations.StartOpensAFrame := by
  intro before
  have started {l : Lane} (live : ((Spec.boundary before l).rx l).link = .live) :
      exec (.linkStart l) before = .next ((Spec.cleared (Spec.boundary before l) l).startLive l) := by
    rw [exec_linkStart, State.onValidCode_live live]
  have within {l : Lane} (receiving : Spec.receiving (Spec.boundary before l) l) :
      exec (.linkStart l) before =
        .next ((((Spec.cleared (Spec.boundary before l) l).leaveFrame l .discarding).countMisplacedStart l).openFrame l) := by
    obtain ⟨live, frame, -⟩ := receiving
    rw [started live, State.startLive_receiving (by rw [State.cleared_rx]; exact frame)]
  refine ⟨?_, ?_, fun receiving => ?_, fun receiving => ?_⟩
  · intro l s live quiet
    rw [started live, State.startLive_quiet (by rw [State.cleared_rx]; exact quiet), State.openFrame_cleared]
  · intro n s receiving
    rw [within receiving, State.openFrame_eq]
    · rfl
    · refine (State.frameLeaves_codeErrors (Spec.cleared s (.front n)) n .discarding).trans ?_
      exact congrArg Receiver.codeErrors (s.cleared_rx (.front n))
  · rw [within receiving, State.leaveFrame_timing]; rfl
  · rw [within (l := .uplink) receiving, State.leaveFrame_uplink]; rfl

end Sys2Proof.Machine
end

section
/-! THEOREMS. What ends a frame: a data word that discards it, END, CUT, code errors and the stall timer (O24 to O28, O30). -/

namespace Sys2Proof.Machine

variable {s before : State} {l : Lane} {n : LinkNo} {w : Word}

/-! ### The rows by the frame state (R78) -/

theorem exec_linkDataWord_live (before : State) (l : Lane) (live : ((Spec.boundary before l).rx l).link = .live) :
    exec (.linkDataWord l w) before = .next ((Spec.cleared (Spec.boundary before l) l).dataLive l w) := by
  rw [exec_linkDataWord, State.onValidCode_live live]

theorem exec_linkEnd_live (before : State) (l : Lane) (live : ((Spec.boundary before l).rx l).link = .live) :
    exec (.linkEnd l) before = .next ((Spec.cleared (Spec.boundary before l) l).endLive l) := by
  rw [exec_linkEnd, State.onValidCode_live live]

theorem exec_linkCut_live (before : State) (l : Lane) (live : ((Spec.boundary before l).rx l).link = .live) :
    exec (.linkCut l) before = .next ((Spec.cleared (Spec.boundary before l) l).cutLive l) := by
  rw [exec_linkCut, State.onValidCode_live live]

theorem State.cleared_frame {f : FrameState} (frame : (s.rx l).frame = f) : ((Spec.cleared s l).rx l).frame = f := by
  rw [cleared_rx]; exact frame

theorem State.cleared_setRx (s : State) (l : Lane) (r : Receiver) :
    (Spec.cleared s l).setRx l r = s.setRx l r := setRx_setRx _ _ _ _

theorem State.dataLive_outside (outside : (s.rx l).frame = .outside) : s.dataLive l w = s.countUnframed l := by
  rw [dataLive.eq_def, outside]

theorem State.dataLive_discarding (discarding : (s.rx l).frame = .discarding) : s.dataLive l w = s := by
  rw [dataLive.eq_def, discarding]

theorem State.dataLive_receiving (receiving : (s.rx l).frame = .receiving) :
    s.dataLive l w = match l with
      | .front n => s.frontWord n w
      | .timing => s.timingWord w
      | .uplink => s.requestWord w := by
  rw [dataLive.eq_def, receiving]; cases l <;> rfl

theorem State.endLive_outside (outside : (s.rx l).frame = .outside) : s.endLive l = s.countUnframed l := by
  rw [endLive.eq_def, outside]

theorem State.endLive_discarding (discarding : (s.rx l).frame = .discarding) :
    s.endLive l = s.setRx l { s.rx l with frame := .outside } := by
  rw [endLive.eq_def, discarding]

theorem State.endLive_receiving (receiving : (s.rx l).frame = .receiving) :
    s.endLive l = match l with
      | .front n => s.judgeFront n
      | .timing => s.judgeTiming
      | .uplink => s.judgeRequest := by
  rw [endLive.eq_def, receiving]; cases l <;> rfl

theorem State.cutLive_outside (outside : (s.rx l).frame = .outside) : s.cutLive l = s.countUnframed l := by
  rw [cutLive, outside]

theorem State.cutLive_discarding (discarding : (s.rx l).frame = .discarding) :
    s.cutLive l = s.setRx l { s.rx l with frame := .outside } := by
  rw [cutLive, discarding]

theorem State.cutLive_receiving (receiving : (s.rx l).frame = .receiving) : s.cutLive l = (s.leaveFrame l .outside).countCut l := by
  rw [cutLive, receiving]

/-- A cleared front link, field by field. -/
theorem State.cleared_front (s : State) (n : LinkNo) :
    (Spec.cleared s (.front n)).front.get n = { s.front.get n with rx := { (s.front.get n).rx with codeErrors := 0 } } :=
  Bank.get_set_self _ _ _

/-- Clearing the code error count keeps the occupancy. -/
theorem State.cleared_occupancy (s : State) (n : LinkNo) :
    ((Spec.cleared s (.front n)).front.get n).occupancy = (s.front.get n).occupancy := by
  rw [cleared_front]; rfl

/-- A frame that a cleared receiver gives up on the timing link or the uplink. -/
theorem State.cleared_leaveFrame_timing (s : State) (next : FrameState) :
    (Spec.cleared s .timing).leaveFrame .timing next = { s with timing := Spec.frameOver s.timing next } := by
  rw [leaveFrame_timing]; rfl

theorem State.cleared_leaveFrame_uplink (s : State) (next : FrameState) :
    (Spec.cleared s .uplink).leaveFrame .uplink next = { s with uplink := Spec.frameOver s.uplink next } := by
  rw [leaveFrame_uplink]; rfl

/-! ### Data words (R79, R83) -/

/-- A foreign first word: the high four bits are the kind, the low six the segment id. -/
theorem State.foreignWord_iff (s : State) (w : Word) :
    s.foreignWord w = true ↔ w.toNat / 4096 ≠ 1 ∨ w.toNat % 64 ≠ s.general.segment := by
  have kind : field w 12 4 = w.toNat / 4096 := by
    rw [field, Nat.shiftRight_eq_div_pow]; have := w.isLt; omega
  have segment : field w 0 6 = w.toNat % 64 := by rw [field, Nat.shiftRight_zero]; rfl
  simp [foreignWord, kind, segment]

/-- A word kept by a receiver whose code error count has just been cleared. -/
theorem State.cleared_push (crc : (s.rx l).crc = crcOf (s.rx l).words.dropLast) (w : Word) :
    { ((Spec.cleared s l).rx l).push w with stall := (Spec.cleared s l).stallNow l } = Spec.joined s l w := by
  have pushed := Receiver.push_crc crc w
  rw [cleared_rx, cleared_stallNow, Spec.joined, ← pushed]
  rfl

theorem State.keepWord_cleared (crc : (s.rx l).crc = crcOf (s.rx l).words.dropLast) (w : Word) :
    (Spec.cleared s l).keepWord l w = (s.setRx l (Spec.joined s l w)).evalLane l := by
  rw [keepWord, cleared_push crc, cleared_setRx]

theorem State.frontWord_long (long : 4096 ≤ (s.front.get n).rx.words.length) :
    s.frontWord n w = Spec.frontDiscard s n .discarding .oversize .frontOversize :=
  if_pos (Nat.lt_succ_of_le long)

theorem State.frontWord_full (short : (s.front.get n).rx.words.length < 4096) (full : 8192 ≤ (s.front.get n).occupancy) :
    s.frontWord n w = Spec.frontDiscard s n .discarding .overflow .frontOverflow :=
  (if_neg (Nat.not_lt.2 short)).trans (if_pos (Nat.lt_succ_of_le full))

theorem State.frontWord_foreign (first : (s.front.get n).rx.words = []) (room : (s.front.get n).occupancy < 8192)
    (foreign : w.toNat / 4096 ≠ 1 ∨ w.toNat % 64 ≠ s.general.segment) :
    s.frontWord n w = (Spec.frameLeaves s n .discarding).bump (.link .foreign n) := by
  have short : ¬ (s.front.get n).rx.words.length + 1 > 4096 := by rw [first]; decide
  exact (if_neg short).trans ((if_neg (Nat.not_lt.2 room)).trans (if_pos ⟨first, (s.foreignWord_iff w).2 foreign⟩))

theorem State.frontWord_kept (short : (s.front.get n).rx.words.length < 4096) (room : (s.front.get n).occupancy < 8192)
    (mine : (s.front.get n).rx.words ≠ [] ∨ (w.toNat / 4096 = 1 ∧ w.toNat % 64 = s.general.segment)) :
    s.frontWord n w = s.keepWord (.front n) w := by
  refine (if_neg (Nat.not_lt.2 short)).trans ((if_neg (Nat.not_lt.2 room)).trans (if_neg ?_))
  rintro ⟨first, foreign⟩
  have other := (s.foreignWord_iff w).1 foreign
  obtain later | ⟨kind, segment⟩ := mine
  · exact later first
  · exact other.elim (fun no => no kind) fun no => no segment

theorem State.timingWord_long (long : 6 ≤ s.timing.words.length) :
    s.timingWord w = (s.leaveFrame .timing .discarding).countTimingDiscard :=
  if_pos (Nat.lt_succ_of_le long)

theorem State.timingWord_kept (short : s.timing.words.length < 6) : s.timingWord w = s.keepWord .timing w :=
  if_neg (Nat.not_lt.2 short)

theorem State.requestWord_long (long : 512 ≤ s.uplink.words.length) :
    s.requestWord w = (s.leaveFrame .uplink .discarding).countRequestDiscard :=
  if_pos (Nat.lt_succ_of_le long)

theorem State.requestWord_kept (short : s.uplink.words.length < 512) : s.requestWord w = s.keepWord .uplink w :=
  if_neg (Nat.not_lt.2 short)

/-- Settles O24: the checks of R83 and R79 on a front link, and the length limits of the other two lanes. -/
theorem dataWordsJoinOrDiscardTheFrame : Obligations.DataWordsJoinOrDiscardTheFrame := by
  intro before w
  refine ⟨?_, ?_, ?_⟩
  · intro n l s f u next
    refine ⟨fun live outside => ?_, fun live discarding => ?_, fun receiving => ?_⟩
    · exact (exec_linkDataWord_live before (.front n) live).trans
        (congrArg _ (State.dataLive_outside (State.cleared_frame outside)))
    · exact (exec_linkDataWord_live before (.front n) live).trans
        (congrArg _ (State.dataLive_discarding (State.cleared_frame discarding)))
    · obtain ⟨live, frame, crc⟩ := receiving
      have executed : next = .next (u.frontWord n w) :=
        (exec_linkDataWord_live before l live).trans (congrArg _ (State.dataLive_receiving (State.cleared_frame frame)))
      have words : (u.front.get n).rx.words = f.rx.words := congrArg (fun g => g.rx.words) (s.cleared_front n)
      have occupancy : (u.front.get n).occupancy = f.occupancy := s.cleared_occupancy n
      refine ⟨fun long => ?_, fun short full => ?_, fun first room foreign => ?_, fun short room mine => ?_⟩
      · rw [executed, State.frontWord_long (words ▸ long)]
      · rw [executed, State.frontWord_full (words ▸ short) (occupancy ▸ full)]
      · rw [executed, State.frontWord_foreign (s := u) (words.trans first) (occupancy ▸ room) foreign]
      · rw [executed, State.frontWord_kept (words ▸ short) (occupancy ▸ room) (words ▸ mine), State.keepWord_cleared crc]
        rfl
  · intro s next
    refine ⟨fun live quiet => ?_, fun receiving => ?_⟩
    · refine (exec_linkDataWord_live before .timing live).trans (congrArg _ ?_)
      cases frame : s.timing.frame with
      | outside => exact State.dataLive_outside (l := .timing) (State.cleared_frame frame)
      | discarding => exact State.dataLive_discarding (State.cleared_frame frame)
      | receiving => exact absurd frame quiet
    · obtain ⟨live, frame, crc⟩ := receiving
      have executed : next = .next ((Spec.cleared s .timing).timingWord w) :=
        (exec_linkDataWord_live before .timing live).trans (congrArg _ (State.dataLive_receiving (State.cleared_frame frame)))
      refine ⟨fun long => ?_, fun short => ?_⟩
      · rw [executed, State.timingWord_long (s := Spec.cleared s .timing) long, State.cleared_leaveFrame_timing]; rfl
      · rw [executed, State.timingWord_kept (s := Spec.cleared s .timing) short, State.keepWord_cleared crc]; rfl
  · intro s next
    refine ⟨fun live outside => ?_, fun live discarding => ?_, fun receiving => ?_⟩
    · exact (exec_linkDataWord_live s .uplink live).trans
        (congrArg _ (State.dataLive_outside (l := .uplink) (State.cleared_frame outside)))
    · exact (exec_linkDataWord_live s .uplink live).trans
        (congrArg _ (State.dataLive_discarding (l := .uplink) (State.cleared_frame discarding)))
    · obtain ⟨live, frame, crc⟩ := receiving
      have executed : next = .next ((Spec.cleared s .uplink).requestWord w) :=
        (exec_linkDataWord_live s .uplink live).trans (congrArg _ (State.dataLive_receiving (State.cleared_frame frame)))
      refine ⟨fun long => ?_, fun short => ?_⟩
      · rw [executed, State.requestWord_long (s := Spec.cleared s .uplink) long, State.cleared_leaveFrame_uplink]; rfl
      · rw [executed, State.requestWord_kept (s := Spec.cleared s .uplink) short, State.keepWord_cleared crc]; rfl

/-! ### END (R80, R165) -/

theorem Receiver.crcGood_iff {r : Receiver} (crc : r.crc = crcOf r.words.dropLast) :
    r.crcGood = true ↔ ¬ Spec.crcFails r.words := by
  rw [crcGood, crc, beq_iff_eq, not_not]

theorem State.judgeFront_short (short : (s.front.get n).rx.words.length < 4) :
    s.judgeFront n = Spec.frontDiscard s n .outside .short .frontMalformed :=
  if_pos short

theorem State.judgeFront_crc (long : 4 ≤ (s.front.get n).rx.words.length) (bad : (s.front.get n).rx.crcGood = false) :
    s.judgeFront n = Spec.frontDiscard s n .outside .crcErrors .frontCrc :=
  (if_neg (Nat.not_lt.2 long)).trans (if_pos (by simp [bad]))

theorem State.judgeFront_idle (long : 4 ≤ (s.front.get n).rx.words.length) (good : (s.front.get n).rx.crcGood = true)
    (idle : Spec.tablesOpen s) : s.judgeFront n = (Spec.frameLeaves s n .outside).bump (.link .idleDiscard n) :=
  (if_neg (Nat.not_lt.2 long)).trans ((if_neg (by simp [good])).trans (if_pos idle))

theorem State.judgeFront_commit (long : 4 ≤ (s.front.get n).rx.words.length) (good : (s.front.get n).rx.crcGood = true)
    (busy : ¬ Spec.tablesOpen s) :
    s.judgeFront n = (s.setFront n (s.front.get n).committed).bump (.link .framesCommitted n) :=
  (if_neg (Nat.not_lt.2 long)).trans ((if_neg (by simp [good])).trans (if_neg busy))

/-- Settles O25: the rows of R80 in order. -/
theorem frontFramesAreJudgedAtTheirEnd : Obligations.FrontFramesAreJudgedAtTheirEnd := by
  intro before n l s f u next
  refine ⟨fun live outside => ?_, fun live discarding => ?_, fun receiving => ?_⟩
  · exact (exec_linkEnd_live before (.front n) live).trans (congrArg _ (State.endLive_outside (State.cleared_frame outside)))
  · refine (exec_linkEnd_live before (.front n) live).trans
      (congrArg _ ((State.endLive_discarding (State.cleared_frame (s := s) (l := .front n) discarding)).trans ?_))
    rw [State.cleared_setRx, State.cleared_rx]; rfl
  · obtain ⟨live, frame, crc⟩ := receiving
    have executed : next = .next (u.judgeFront n) :=
      (exec_linkEnd_live before (.front n) live).trans (congrArg _ (State.endLive_receiving (State.cleared_frame frame)))
    have link : u.front.get n = { f with rx := { f.rx with codeErrors := 0 } } := s.cleared_front n
    have good : (u.front.get n).rx.crcGood = true ↔ ¬ Spec.crcFails f.rx.words := by
      rw [link]; exact Receiver.crcGood_iff (r := { f.rx with codeErrors := 0 }) crc
    have words : (u.front.get n).rx.words = f.rx.words := by rw [link]
    refine ⟨fun short => ?_, fun long fails => ?_, fun long passes idle => ?_, fun long passes running => ?_⟩
    · rw [executed, State.judgeFront_short (words ▸ short)]
    · rw [executed, State.judgeFront_crc (words ▸ long) (Bool.eq_false_iff.2 fun g => good.1 g fails)]
    · rw [executed, State.judgeFront_idle (words ▸ long) (good.2 passes) idle]
    · have busy : ¬ Spec.tablesOpen u := fun open_ => by
        have idle : s.runState = .setup ∨ s.runState = .ready := open_
        obtain e | e := running <;> rw [e] at idle <;> simp at idle
      rw [executed, State.judgeFront_commit (words ▸ long) (good.2 passes) busy, link]
      simp only [u, l, Spec.cleared, State.setRx, State.setFront, Bank.set_set]
      rfl

theorem State.receiveRequest_room {content : List Word} (room : s.requests.length < 4) :
    s.receiveRequest content = { s with requests := s.requests ++ [content] } := if_pos room

theorem State.receiveRequest_full {content : List Word} (full : 4 ≤ s.requests.length) :
    s.receiveRequest content = (s.bump (.part .requestQueueOverflow)).addError .requestDropped := if_neg (Nat.not_lt.2 full)

theorem State.judgeRequest_short (short : s.uplink.words.length < 2) :
    s.judgeRequest = (s.leaveFrame .uplink .outside).countRequestDiscard := if_pos short

theorem State.judgeRequest_crc (long : 2 ≤ s.uplink.words.length) (bad : s.uplink.crcGood = false) :
    s.judgeRequest = (s.leaveFrame .uplink .outside).countRequestCrc :=
  (if_neg (Nat.not_lt.2 long)).trans (if_pos (by simp [bad]))

theorem State.judgeRequest_good (long : 2 ≤ s.uplink.words.length) (good : s.uplink.crcGood = true) :
    s.judgeRequest = (s.leaveFrame .uplink .outside).receiveRequest s.uplink.words.dropLast :=
  (if_neg (Nat.not_lt.2 long)).trans (if_neg (by simp [good]))

/-- Settles O26: the rows of R165 and R166 in order. -/
theorem requestFramesAreJudgedAtTheirEnd : Obligations.RequestFramesAreJudgedAtTheirEnd := by
  intro s r u
  refine ⟨fun live outside => ?_, fun live discarding => ?_, fun receiving => ?_⟩
  · exact (exec_linkEnd_live s .uplink live).trans
      (congrArg _ (State.endLive_outside (l := .uplink) (State.cleared_frame outside)))
  · exact (exec_linkEnd_live s .uplink live).trans
      (congrArg _ (State.endLive_discarding (l := .uplink) (State.cleared_frame discarding)))
  · obtain ⟨live, frame, crc⟩ := receiving
    have executed : exec (.linkEnd .uplink) s = .next (Spec.cleared s .uplink).judgeRequest :=
      (exec_linkEnd_live s .uplink live).trans (congrArg _ (State.endLive_receiving (State.cleared_frame frame)))
    have good : (Spec.cleared s .uplink).uplink.crcGood = true ↔ ¬ Spec.crcFails r.words := Receiver.crcGood_iff crc
    refine ⟨fun short => ?_, fun long fails => ?_, fun long passes room => ?_, fun long passes full => ?_⟩
    · rw [executed, State.judgeRequest_short (s := Spec.cleared s .uplink) short, State.cleared_leaveFrame_uplink]; rfl
    · rw [executed, State.judgeRequest_crc (s := Spec.cleared s .uplink) long (Bool.eq_false_iff.2 fun g => good.1 g fails),
        State.cleared_leaveFrame_uplink]
      rfl
    · rw [executed, State.judgeRequest_good (s := Spec.cleared s .uplink) long (good.2 passes), State.cleared_leaveFrame_uplink]
      exact congrArg _ (State.receiveRequest_room (s := u) room)
    · rw [executed, State.judgeRequest_good (s := Spec.cleared s .uplink) long (good.2 passes), State.cleared_leaveFrame_uplink]
      exact congrArg _ (State.receiveRequest_full (s := u) full)

/-! ### CUT (R84) -/

/-- Settles O27: a CUT by the frame state it finds. -/
theorem cutEndsAFrame : Obligations.CutEndsAFrame := by
  intro before
  have within {l : Lane} (receiving : Spec.receiving (Spec.boundary before l) l) :
      exec (.linkCut l) before = .next (((Spec.cleared (Spec.boundary before l) l).leaveFrame l .outside).countCut l) := by
    obtain ⟨live, frame, -⟩ := receiving
    rw [exec_linkCut_live before l live, State.cutLive_receiving (State.cleared_frame frame)]
  have without {l : Lane} (live : ((Spec.boundary before l).rx l).link = .live)
    (outside : ((Spec.boundary before l).rx l).frame = .outside) :
      exec (.linkCut l) before = .next ((Spec.cleared (Spec.boundary before l) l).countUnframed l) := by
    rw [exec_linkCut_live before l live, State.cutLive_outside (State.cleared_frame outside)]
  refine ⟨?_, ?_, ?_, ?_⟩
  · intro l s live discarding
    rw [exec_linkCut_live before l live, State.cutLive_discarding (State.cleared_frame discarding), State.cleared_setRx,
      State.cleared_rx]
  · exact fun n => ⟨fun live outside => without live outside, fun receiving => within receiving⟩
  · refine ⟨fun live outside => without live outside, fun receiving => ?_⟩
    rw [within receiving, State.cleared_leaveFrame_timing]; rfl
  · refine ⟨fun live outside => without (l := .uplink) live outside, fun receiving => ?_⟩
    rw [within (l := .uplink) receiving, State.cleared_leaveFrame_uplink]; rfl

/-! ### Code errors before the fourth (R77, R82) -/

theorem State.codeError_live (live : (s.rx l).link = .live) : s.codeError l = s.codeErrorLive l := by
  rw [codeError, live]

theorem State.codeError_aligning (aligning : (s.rx l).link = .aligning) :
    s.codeError l = s.setRx l { s.rx l with link := .dark } := by
  rw [codeError, aligning]

/-- Before the fourth code error, outside a frame in RECEIVING. -/
theorem State.codeErrorLive_quiet (few : (s.rx l).codeErrors < 3) (quiet : (s.rx l).frame ≠ .receiving) :
    s.codeErrorLive l =
      (s.countCodeError l).setRx l { (s.countCodeError l).rx l with codeErrors := (s.rx l).codeErrors + 1 } := by
  rw [codeErrorLive, if_neg quiet]
  exact if_neg (show ¬ (s.rx l).codeErrors + 1 ≥ 4 by omega)

/-- Before the fourth code error, within a frame in RECEIVING. -/
theorem State.codeErrorLive_receiving (few : (s.rx l).codeErrors < 3) (receiving : (s.rx l).frame = .receiving) :
    s.codeErrorLive l =
      let t := ((s.countCodeError l).leaveFrame l .discarding).countFrameError l
      t.setRx l { t.rx l with codeErrors := (s.rx l).codeErrors + 1 } := by
  rw [codeErrorLive, if_pos receiving]
  exact if_neg (show ¬ (s.rx l).codeErrors + 1 ≥ 4 by omega)

/-- Settles O28: an ALIGNING receiver, and a LIVE one before the fourth error, by the frame state. -/
theorem codeErrorsAreCounted : Obligations.CodeErrorsAreCounted := by
  intro before
  refine ⟨?_, ?_, ?_, ?_⟩
  · intro l s aligning
    rw [exec_linkCodeError, State.codeError_aligning aligning]
  · intro n s f b d next live few
    have executed : next = .next (s.codeErrorLive (.front n)) := exec_linkCodeError.trans (congrArg _ (State.codeError_live live))
    refine ⟨fun quiet => ?_, fun receiving => ?_⟩
    · rw [executed, State.codeErrorLive_quiet (l := .front n) few quiet]; rfl
    · rw [executed, State.codeErrorLive_receiving (l := .front n) few receiving]; rfl
  · intro s next live few
    have executed : next = .next (s.codeErrorLive .timing) := exec_linkCodeError.trans (congrArg _ (State.codeError_live live))
    refine ⟨fun quiet => ?_, fun receiving => ?_⟩
    · rw [executed, State.codeErrorLive_quiet (l := .timing) few quiet]; rfl
    · rw [executed, State.codeErrorLive_receiving (l := .timing) few receiving, State.leaveFrame_timing]; rfl
  · intro s b next live few
    have executed : next = .next (s.codeErrorLive .uplink) :=
      exec_linkCodeError.trans (congrArg _ (State.codeError_live (s := Spec.boundary s .uplink) live))
    refine ⟨fun quiet => ?_, fun receiving => ?_⟩
    · rw [executed, State.codeErrorLive_quiet (l := .uplink) few quiet]; rfl
    · rw [executed, State.codeErrorLive_receiving (l := .uplink) few receiving, State.leaveFrame_uplink]; rfl

/-! ### The stall timer (R85) -/

theorem State.stallOut_due (receiving : (s.rx l).frame = .receiving) (due : (s.rx l).stall = some s.timebase) :
    s.stallOut l = (s.leaveFrame l .discarding).countMisplacedStart l :=
  if_pos (by simp [stallDue, receiving, due])

theorem State.stallOut_early (early : (s.rx l).stall ≠ some s.timebase) : s.stallOut l = s :=
  if_neg (by simp [stallDue, early])

/-- Settles O30: a stall expiry on each lane, due and not due. -/
theorem stalledFramesAreDiscarded : Obligations.StalledFramesAreDiscarded := by
  intro s
  refine ⟨fun n receiving due => congrArg _ (State.stallOut_due (l := .front n) receiving due), fun receiving due => ?_,
    fun receiving due => ?_, fun n early => congrArg _ (State.stallOut_early (l := .front n) early),
    fun early => congrArg _ (State.stallOut_early (l := .timing) early),
      fun early => congrArg _ (State.stallOut_early (l := .uplink) early)⟩
  · refine congrArg Host.Outcome.next ((State.stallOut_due (l := .timing) receiving due).trans ?_)
    rw [State.leaveFrame_timing]; rfl
  · refine congrArg Host.Outcome.next ((State.stallOut_due (l := .uplink) receiving due).trans ?_)
    rw [State.leaveFrame_uplink]; rfl

end Sys2Proof.Machine
end

section
/-! THEOREMS. The loss notice, the fourth code error, Bar link and Unbar link, and Warm reset (O20, O29, O57, O58). -/

namespace Sys2Proof.Machine

variable {s t : State} {n : LinkNo}

/-! ### The manual's words for the machine's operations -/

theorem State.returnCells_eq (s : State) (cells : List Nat) : s.returnCells cells = Spec.cellsBack s cells := rfl

theorem State.takeCells_eq (s : State) (k : Nat) : s.takeCells k = Spec.cellsTaken s k := rfl

theorem Slot.allIn_iff_spec (x : Slot) : x.allIn = true ↔ Spec.allIn x := by
  rw [Slot.allIn_iff, Slot.busy_iff]

theorem State.closeSlot_eq (s : State) (i : SlotNo) (c : Cause) : s.closeSlot i c = (Spec.closes s i c).bumpOption c.counter := by
  rw [closeSlot, Spec.closes, Slot.close_eq]; rfl

theorem State.allInCheck_eq (s : State) (i : SlotNo) : s.allInCheck i = Spec.tested s i := by
  rw [allInCheck, Spec.tested, closeSlot_eq]
  exact if_congr (and_congr (Slot.isOpen_iff _) (Slot.allIn_iff_spec _)) rfl rfl

/-! ### What a fold over slots does to each of them -/

/-- A slot record with its deadline. -/
def State.slotAt (s : State) (i : SlotNo) : Slot × Deadline := (s.slots.get i, s.deadlines.get i)

section
variable {f : State → SlotNo → State} (others : ∀ (t : State) (i j : SlotNo), j ≠ i → (f t i).slotAt j = t.slotAt j)
include others

theorem State.foldl_slotAt_of_notMem {l : List SlotNo} {j : SlotNo} (out : j ∉ l) (s : State) :
    (l.foldl f s).slotAt j = s.slotAt j := by
  induction l generalizing s with
  | nil => rfl
  | cons i l ih =>
    obtain ⟨here, later⟩ := List.ne_and_not_mem_of_not_mem_cons out
    rw [List.foldl_cons, ih later, others s i j here]

/-- Each slot of the list meets the operation once: no other meeting touches it. -/
theorem State.foldl_slotAt_of_mem {R : Slot × Deadline → Slot × Deadline → Prop} (own : ∀ (t : State) i,
    R (t.slotAt i) ((f t i).slotAt i))
    {l : List SlotNo} {j : SlotNo} (once : l.Nodup) (mem : j ∈ l) (s : State) : R (s.slotAt j) ((l.foldl f s).slotAt j) := by
  induction l generalizing s with
  | nil => cases mem
  | cons i l ih =>
    obtain ⟨fresh, once⟩ := List.nodup_cons.1 once
    rw [List.foldl_cons]
    rcases List.mem_cons.1 mem with rfl | later
    · rw [State.foldl_slotAt_of_notMem others fresh]
      exact own s j
    · rw [← others s i j (ne_of_mem_of_not_mem later fresh)]
      exact ih once later _

end

/-! ### The loss notice (R23) -/

/-- What a loss notice of a link owes a slot and its deadline. -/
def NoticedAs (n : LinkNo) (p q : Slot × Deadline) : Prop :=
  let y := { p.1 with contribs := p.1.contribs.set n (some .lost) }
  if Spec.isOpen p.1 ∧ p.1.contribs.get n = some .awaited then
    (Spec.allIn y → q = (Spec.closed y .allIn, { p.2 with stage := .none })) ∧ (¬ Spec.allIn y → q = (y, p.2))
  else q = p

theorem State.noticeAtSlot_self (s : State) (n : LinkNo) (i : SlotNo) :
    NoticedAs n (s.slotAt i) ((s.noticeAtSlot n i).slotAt i) := by
  rw [NoticedAs]
  split
  · next awaited =>
    obtain ⟨opened, waits⟩ := id awaited
    rw [noticeAtSlot, if_pos ⟨(Slot.isOpen_iff _).2 opened, waits⟩, allInCheck_eq, Spec.tested]
    simp only [setSlot_slots, Bank.get_set_self]
    refine ⟨fun all => ?_, fun some => ?_⟩
    · rw [if_pos ⟨opened, all⟩]
      simp [Spec.closes, slotAt]
    · rw [if_neg fun h => some h.2]
      simp [slotAt]
  · next other => rw [noticeAtSlot, if_neg fun h => other ⟨(Slot.isOpen_iff _).1 h.1, h.2⟩]

theorem State.noticeAtSlot_other (s : State) (n : LinkNo) (i j : SlotNo) (other : j ≠ i) :
    (s.noticeAtSlot n i).slotAt j = s.slotAt j := by
  rw [noticeAtSlot]
  split
  · rw [allInCheck_eq, Spec.tested, slotAt, slotAt]
    split
    · simp [Spec.closes, Bank.get_set_ne _ _ other]
    · simp [Bank.get_set_ne _ _ other]
  · rfl

theorem State.lossNotice_slotAt (s : State) (n : LinkNo) (i : SlotNo) : NoticedAs n (s.slotAt i) ((s.lossNotice n).slotAt i) :=
  State.foldl_slotAt_of_mem (fun t i j other => t.noticeAtSlot_other n i j other) (fun t i => t.noticeAtSlot_self n i) indices_nodup
    (mem_indices i) s

/-- Settles O20: the notice meets each of the 64 slots once. -/
theorem lossNoticeTurnsAwaitedToLost : Obligations.LossNoticeTurnsAwaitedToLost := by
  intro s n t
  refine ⟨s.lossNotice_frame n, fun i => ?_⟩
  have noticed := s.lossNotice_slotAt n i
  simp only [NoticedAs, State.slotAt, Prod.mk.injEq] at noticed
  exact noticed

/-! ### The fourth code error (R77, R92, R168) -/

theorem State.codeErrorLive_last {l : Lane} (last : (s.rx l).codeErrors = 3) (quiet : (s.rx l).frame ≠ .receiving) :
    s.codeErrorLive l = (s.countCodeError l).loseLock l := by
  rw [codeErrorLive, if_neg quiet]
  exact if_pos (show (s.rx l).codeErrors + 1 ≥ 4 by omega)

theorem State.noticeAtLoss_idle (idle : (s.front.get n).notice = .none) (empty : (s.front.get n).waiting = []) :
    s.noticeAtLoss n = (s.setFront n { s.front.get n with notice := .delivered }).lossNotice n := by
  rw [noticeAtLoss, if_pos idle, if_pos (by rw [empty]; rfl)]

theorem State.noticeAtLoss_waiting (idle : (s.front.get n).notice = .none) (waits : (s.front.get n).waiting ≠ []) :
    s.noticeAtLoss n = s.setFront n { s.front.get n with notice := .pending } := by
  rw [noticeAtLoss, if_pos idle, if_neg (by simpa using waits)]

theorem State.noticeAtLoss_told (told : (s.front.get n).notice ≠ .none) : s.noticeAtLoss n = s := if_neg told

theorem State.freeSlotAtGet_eq (s : State) :
    s.freeSlotAtGet =
      { Spec.cellsBack s (s.slots.get s.get).cells with
        slots := s.slots.set s.get Slot.empty, deadlines := s.deadlines.set s.get Deadline.empty, get := s.get + 1
        fill := s.fill - 1 }.evalTiming := by
  have back : s.returnCells (s.slots.get s.get).cells = Spec.cellsBack s (s.slots.get s.get).cells := rfl
  rw [freeSlotAtGet, ← back]
  dsimp only
  have kept := s.returnCells_frame (s.slots.get s.get).cells
  generalize s.returnCells (s.slots.get s.get).cells = u at kept ⊢
  rw [kept]
  rfl

/-- Settles O29: the loss of lock on each lane, and on the uplink by what the emitter sends. -/
theorem fourthCodeErrorLosesLock : Obligations.FourthCodeErrorLosesLock := by
  intro before
  have lost {l : Lane} (live : ((Spec.boundary before l).rx l).link = .live) (last : ((Spec.boundary before l).rx l).codeErrors = 3)
      (quiet : ((Spec.boundary before l).rx l).frame ≠ .receiving) :
      exec (.linkCodeError l) before = .next (((Spec.boundary before l).countCodeError l).loseLock l) := by
    rw [exec_linkCodeError, State.codeError_live live, State.codeErrorLive_last last quiet]
  refine ⟨?_, ?_, ?_⟩
  · intro n s f down b next live last quiet
    have executed : next = .next ((b.setFront n down).noticeAtLoss n) := lost (l := .front n) live last quiet
    have link : (b.setFront n down).front.get n = down := Bank.get_set_self _ _ _
    have twice (g : FrontLink) : (b.setFront n down).setFront n g = b.setFront n g := by simp [State.setFront]
    refine ⟨fun idle empty => ?_, fun idle waits => ?_, fun told => ?_⟩
    · rw [executed, State.noticeAtLoss_idle (by rw [link]; exact idle) (by rw [link]; exact empty), link, twice]
    · rw [executed, State.noticeAtLoss_waiting (by rw [link]; exact idle) (by rw [link]; exact waits), link, twice]
    · rw [executed, State.noticeAtLoss_told (by rw [link]; exact told)]
  · intro s live last quiet
    rw [lost (l := .timing) live last quiet]; rfl
  · intro s b cut dropped next live last quiet
    have executed : next =
        .next { b.abandonFrame.bumpBy (.part .repliesDropped) b.abandonFrame.replies.length with replies := [] } :=
      lost (l := .uplink) live last quiet
    refine ⟨fun idle => ?_, fun reply => ?_, fun event => ?_⟩
    · have abandoned : b.abandonFrame = b := by rw [State.abandonFrame, show b.emitter.frame = .none from idle]
      rw [executed, abandoned]; rfl
    · have abandoned : b.abandonFrame = cut := by rw [State.abandonFrame, show b.emitter.frame = .reply from reply]; rfl
      rw [executed, abandoned]; rfl
    · intro v
      have abandoned : b.abandonFrame = cut.freeSlotAtGet.bump (.part .emissionAborted) := by
        rw [State.abandonFrame, show b.emitter.frame = .event from event]; rfl
      have replies : cut.freeSlotAtGet.replies = s.replies := by rw [State.freeSlotAtGet_frame]; rfl
      rw [executed, abandoned]
      show Host.Outcome.next { (cut.freeSlotAtGet.bump (.part .emissionAborted)).bumpBy (.part .repliesDropped)
        cut.freeSlotAtGet.replies.length with replies := [] } = _
      rw [replies, State.freeSlotAtGet_eq]
      rfl

end Sys2Proof.Machine
end

section
/-! THEOREMS. The checks of a request, Bar link and Unbar link, and Warm reset (O50, O57, O58). -/

namespace Sys2Proof.Machine

open Sys2Proof.Safety

variable {s : State} {content : List Word} {rest : List (List Word)} {row : RequestRow}

/-! ### A request that is taken (R174, R175) -/

theorem State.take_request {q : Request} (h : Spec.takes s content rest) (belongs : rowOf content = row)
    (pass : judge content = .pass q)
    (run : State → Request → Answer) :
    s.take row run =
      Spec.replied (run (Spec.taken s rest) q).state content (run (Spec.taken s rest) q).result (run (Spec.taken s rest) q).data :=
        by
  rw [s.take_passed _ run h.1 (mayTake_of_takes h) belongs pass, Answer.finish, replyTo_eq]; rfl

theorem State.take_refusal {r : Result} (h : Spec.takes s content rest) (belongs : rowOf content = row)
    (refused : judge content = .refuse r)
    (run : State → Request → Answer) : s.take row run = Spec.replied (Spec.taken s rest) content r [] := by
  rw [s.take_refused _ run h.1 (mayTake_of_takes h) belongs refused, replyTo_eq]; rfl

/-! ### Bar link and Unbar link (R90, R91) -/

section
variable {number : BitVec 8} {verb : Nat} {argument : Word} {v : Verb} {n : LinkNo}

/-- A verb that reads a link number passes the checks with the number of a link. -/
theorem judge_linkCommand (defined : Verb.ofWord (BitVec.ofNat 16 verb) = some v) (link : argument.toNat = n.val) :
    judge (Spec.command number verb argument) = .pass (.command v argument) := by
  have small : ¬ argument.toNat > 23 := by omega
  rw [judge, requestKind_command]
  simp [judgeCommand, Spec.command, defined, small]

theorem State.take_linkCommand (h : Spec.takes s (Spec.command number verb argument) rest)
    (defined : Verb.ofWord (BitVec.ofNat 16 verb) = some v) (link : argument.toNat = n.val) (run : State → Request → Answer) :
    s.take (.command v) run =
      let a := run (Spec.taken s rest) (.command v argument)
      Spec.replied a.state (Spec.command number verb argument) a.result a.data :=
  State.take_request h (rowOf_command defined) (judge_linkCommand defined link) run

theorem linkNo_command (link : argument.toNat = n.val) : (Request.command v argument).linkNo = n := by
  rw [Request.linkNo, link]
  exact Fin.ext (Nat.mod_eq_of_lt n.isLt)

end

theorem State.barLink_delivered {n : LinkNo} (told : (s.front.get n).notice = .delivered) :
    s.barLink n =
      ((s.setFront n { s.front.get n with rx := (s.front.get n).rx.barred, waiting := [], notice := .delivered }).bumpBy
        (.link .discardedByBar n) (s.front.get n).waiting.length).evalFront n := by
  rw [barLink]; exact congrArg (fun t : State => t.evalFront n) (if_pos told)

theorem State.barLink_undelivered {n : LinkNo} (owed : (s.front.get n).notice ≠ .delivered) :
    s.barLink n =
      (((s.setFront n { s.front.get n with rx := (s.front.get n).rx.barred, waiting := [], notice := .delivered }).bumpBy
        (.link .discardedByBar n) (s.front.get n).waiting.length).lossNotice n).evalFront n := by
  rw [barLink]; exact congrArg (fun t : State => t.evalFront n) (if_neg owed)

/-- Settles O58: the link state, and the notice state of a link that is barred, decide. -/
theorem barAndUnbarLinks : Obligations.BarAndUnbarLinks := by
  intro s number argument n rest content u f g v link
  refine ⟨fun takes => ?_, fun takes => ?_⟩
  · have executed : exec .barLink s = .next (s.take (.command .barLink) State.runBarLink) := rfl
    rw [executed, State.take_linkCommand takes rfl link, State.runBarLink, linkNo_command link]
    refine ⟨fun barred => ?_, fun other told => ?_, fun other owed => ?_⟩
    · rw [if_pos (show ((Spec.taken s rest).front.get n).rx.link = .barred from barred)]; rfl
    · rw [if_neg (show ¬ ((Spec.taken s rest).front.get n).rx.link = .barred from other),
        State.barLink_delivered (s := Spec.taken s rest) told]
      dsimp only [State.accept]
      rfl
    · rw [if_neg (show ¬ ((Spec.taken s rest).front.get n).rx.link = .barred from other),
        State.barLink_undelivered (s := Spec.taken s rest) owed]
      dsimp only [State.accept]
      rfl
  · have executed : exec .unbarLink s = .next (s.take (.command .unbarLink) State.runUnbarLink) := rfl
    rw [executed, State.take_linkCommand takes rfl link, State.runUnbarLink, linkNo_command link]
    refine ⟨fun other => ?_, fun barred => ?_⟩
    · rw [if_neg (show ¬ ((Spec.taken s rest).front.get n).rx.link = .barred from other)]; rfl
    · rw [if_pos (show ((Spec.taken s rest).front.get n).rx.link = .barred from barred)]; rfl

/-! ### Warm reset (R189) -/

theorem Receiver.quiet_warm {r : Receiver} (h : ReceiverSound r) : r.warm.words = [] ∧ r.warm.stall = none := by
  rw [Receiver.warm]
  split
  · exact ⟨rfl, rfl⟩
  · next quiet => exact h.2.1 quiet

theorem State.warmEmitter_event (sending : s.emitter.frame = .event) :
    s.warmEmitter = ({ s with emitter := Emitter.idle }.emit .uplink .cut).bump (.part .eventFramesCut) := by
  rw [warmEmitter, sending]

theorem State.warmEmitter_other (other : s.emitter.frame ≠ .event) : s.warmEmitter = s := by
  rw [warmEmitter]
  split
  · next event => exact absurd event other
  · rfl
  · rfl

/-- What a warm reset does to the emitter, the record and the counters; the rest is the same in every state of the emitter. -/
theorem State.warmEmitter_changes (s : State) :
    s.warmEmitter = { s with emitter := s.warmEmitter.emitter, out := s.warmEmitter.out, counters := s.warmEmitter.counters } := by
  rw [warmEmitter]; split <;> rfl

theorem State.warmReset_eq (s : State) :
    s.warmReset =
      { s.warmEmitter.emptied with timing := s.timing.warm, front := s.front.map FrontLink.warm }.evalTiming := by
  rw [warmReset, warmLinks_eq]
  rw [show s.warmEmitter.emptied.front = s.front by rw [warmEmitter_changes]; rfl]

theorem timingDecision_stopped {run : RunState} (stopped : run ≠ .running) (g : General) (fill free : Nat) (f : Flow) :
    timingDecision run g fill free f = .hold := if_pos stopped

/-- Outside RUNNING the timing flow state becomes HOLD, which is due where it was GO (R70, R71). -/
theorem State.evalTiming_stopped (stopped : s.runState ≠ .running) :
    s.evalTiming = { s with timingFlow := .hold, timingDue := if s.timingFlow = .go then .changed else s.timingDue } := by
  rw [evalTiming, timingDecision_stopped stopped]
  cases flow : s.timingFlow with
  | hold => rw [if_pos rfl, if_neg (by decide), ← flow]
  | go => rw [if_neg (by decide), if_pos rfl]

theorem State.warmRunState (s : State) : (if s.locked = true then RunState.ready else .setup) ≠ .running := by
  split <;> decide

/-- A warm reset, block by block (R28, R42, R56, R73, R95, R133, R145, R189). -/
theorem State.warmReset_blocks (s : State) :
    s.warmReset =
      { s.warmEmitter with
        runState := if s.locked = true then .ready else .setup, newestTag := none, pendingSkipped := 0
        slots := Bank.fill 64 Slot.empty, put := 0, get := 0, fill := 0, deadlines := Bank.fill 64 Deadline.empty, orphans := []
        adoption := [], job := none, rotation := 24, freeQueue := allCells, timing := s.timing.warm
        front := s.front.map FrontLink.warm, timingFlow := .hold
        timingDue := if s.timingFlow = .go then .changed else s.timingDue } := by
  have locked : s.warmEmitter.locked = s.locked := by rw [warmEmitter_changes]
  have flow : s.warmEmitter.timingFlow = s.timingFlow := by rw [warmEmitter_changes]
  have due : s.warmEmitter.timingDue = s.timingDue := by rw [warmEmitter_changes]
  rw [warmReset_eq, State.evalTiming_stopped]
  · rw [← flow, ← due, ← locked, emptied]
  · show (if s.warmEmitter.locked = true then RunState.ready else .setup) ≠ .running
    rw [locked]; exact s.warmRunState

/-- Settles O57: Warm reset keeps what `warmReset_blocks` does not name. -/
theorem warmResetEmptiesTheTable : Obligations.WarmResetEmptiesTheTable := by
  intro s number argument rest content skipped emptied cut takes
  have executed : exec .warmReset s = .next (s.take (.command .warmReset) State.runWarmReset) := rfl
  have fronts (n : LinkNo) : (Spec.taken s rest).warmReset.front.get n = emptied (s.front.get n) := by
    rw [State.warmReset_blocks]; exact Bank.get_map _ _ _
  refine ⟨(Spec.taken s rest).warmReset, ?_, ?_⟩
  · rw [executed, State.take_command takes rfl rfl]; rfl
  refine ⟨by rw [State.warmReset_blocks]; rfl, by rw [State.warmReset_blocks], by rw [State.warmReset_blocks]; rfl,
    by rw [State.warmReset_blocks], by rw [State.warmReset_blocks], by rw [State.warmReset_blocks], by rw [State.warmReset_blocks],
    by rw [State.warmReset_blocks], fun i => ?_, by rw [State.warmReset_blocks], by rw [State.warmReset_blocks],
    by rw [State.warmReset_blocks], by rw [State.warmReset_blocks], ?_, fun n => ⟨fronts n, fun sound => ?_⟩, ?_, fun event => ?_,
    fun other => ?_, ?_⟩
  · rw [State.warmReset_blocks]; exact ⟨Bank.get_fill _ _, Bank.get_fill _ _⟩
  · rw [State.warmReset_blocks, allCells, Config.cellCount]
  · obtain ⟨words, stall⟩ := Receiver.quiet_warm sound
    have empty : (emptied (s.front.get n)).occupancy = 0 := by
      show 0 + 0 + (s.front.get n).rx.warm.words.length = 0
      rw [words]; rfl
    rw [fronts n]
    exact ⟨words, empty, stall⟩
  · rw [State.warmReset_blocks]; rfl
  · rw [State.warmReset_blocks, State.warmEmitter_event (s := Spec.taken s rest) event]
    exact ⟨rfl, rfl, rfl⟩
  · rw [State.warmReset_blocks, State.warmEmitter_other (s := Spec.taken s rest) other]
    exact ⟨rfl, rfl, rfl⟩
  · have kept := (Spec.taken s rest).warmEmitter_changes
    rw [State.warmReset_blocks]
    generalize (Spec.taken s rest).warmEmitter = w at kept ⊢
    rw [kept]
    generalize allCells = cells
    rfl

end Sys2Proof.Machine
end

section
/-! THEOREMS. The checks of a request by rows 1 to 7 of R175 (O50). -/

namespace Sys2Proof.Machine

variable {s : State} {c : Instr} {row : RequestRow} {w0 : Word} {more : List Word} {rest : List (List Word)}

/-! ### The command that serves a row -/

/-- A command takes the requests of a row. -/
def Serves (c : Instr) (row : RequestRow) : Prop := ∃ run, ∀ s : State, exec c s = .next (s.take row run)

theorem Serves.refuses {r : Result} {content : List Word} (serves : Serves c row) (takes : Spec.takes s content rest)
    (belongs : rowOf content = row) (refused : judge content = .refuse r) :
    exec c s = .next (Spec.replied (Spec.taken s rest) content r []) := by
  obtain ⟨run, executed⟩ := serves
  rw [executed, State.take_refusal takes belongs refused]

theorem Serves.idle (serves : Serves c row) (idle : s.requests = [] ∨ s.executing = true ∨ 4 ≤ s.replies.length) :
    exec c s = .next s := by
  obtain ⟨run, executed⟩ := serves
  rw [executed]
  obtain none | busy | full := idle
  · rw [s.take_empty _ _ none]
  · rw [s.take_blocked _ _ (by simp [State.mayTake, busy])]
  · rw [s.take_blocked _ _ (by simp [State.mayTake, Config.replyCapacity, Nat.not_lt.2 full])]

theorem serves_read : Serves .read .read := ⟨_, fun _ => rfl⟩

theorem serves_write : Serves .write .write := ⟨_, fun _ => rfl⟩

theorem serves_undefined : Serves .undefinedRequest .undefined := ⟨_, fun _ => rfl⟩

/-- The command that takes a COMMAND of a verb. -/
def Verb.instr : Verb → Instr
  | .setupDone => .setupDone
  | .start => .start
  | .stop => .stop
  | .flush => .flush
  | .warmReset => .warmReset
  | .clearCounters => .clearCounters
  | .clearErrors => .clearErrors
  | .barLink => .barLink
  | .unbarLink => .unbarLink
  | .pedestalStart => .pedestalStart
  | .pedestalStop => .pedestalStop
  | .pedestalAdopt => .pedestalAdopt

theorem serves_verb (v : Verb) : Serves v.instr (.command v) := by
  cases v <;> exact ⟨_, fun _ => rfl⟩

/-- The verb codes of the manual are those of the machine. -/
theorem verbCommand_eq (w : Word) : Spec.verbCommand w.toNat = (Verb.ofWord w).map Verb.instr := by
  unfold Spec.verbCommand Verb.ofWord
  split <;> simp_all [Verb.instr]

/-- A WRITE that carries a space word is taken by the command of the space. -/
theorem serves_writeCommand (w0 space : Word) (more : List Word) :
    Serves (Spec.writeCommand space.toNat) (writeRow (w0 :: space :: more)) := by
  have word : ((w0 :: space :: more)[1]?).map BitVec.toNat = some space.toNat := rfl
  rw [writeRow, word]
  unfold Spec.writeCommand
  split
  · next zero => rw [zero]; exact ⟨_, fun _ => rfl⟩
  · next three => rw [three]; exact ⟨_, fun _ => rfl⟩
  · next four => rw [four]; exact ⟨_, fun _ => rfl⟩
  · next zero three four =>
    split
    · next e => exact absurd (Option.some.inj e) zero
    · next e => exact absurd (Option.some.inj e) three
    · next e => exact absurd (Option.some.inj e) four
    · exact serves_write

/-- A space word that names no writable space of its own row. -/
theorem writeCommand_eq_write {a : Nat} (zero : a ≠ 0) (three : a ≠ 3) (four : a ≠ 4) : Spec.writeCommand a = .write := by
  unfold Spec.writeCommand
  split
  · exact absurd rfl zero
  · exact absurd rfl three
  · exact absurd rfl four
  · rfl

/-! ### The kind of a request (row 1) -/

theorem requestKind_eq (w0 : Word) (more : List Word) : requestKind (w0 :: more) = w0.toNat / 256 := by
  rw [requestKind, List.getD_cons_zero, field, Nat.shiftRight_eq_div_pow]
  have := w0.isLt
  omega

section
variable (kind : w0.toNat / 256 = 1)
include kind

theorem rowOf_read : rowOf (w0 :: more) = .read := by rw [rowOf, requestKind_eq, kind]; rfl

theorem judge_read : judge (w0 :: more) = judgeRead more := by rw [judge, requestKind_eq, kind]; rfl

end

section
variable (kind : w0.toNat / 256 = 2)
include kind

theorem rowOf_write : rowOf (w0 :: more) = writeRow (w0 :: more) := by rw [rowOf, requestKind_eq, kind]; rfl

theorem judge_write : judge (w0 :: more) = judgeWrite more := by rw [judge, requestKind_eq, kind]; rfl

end

section
variable (kind : w0.toNat / 256 = 3)
include kind

theorem rowOf_verb : rowOf (w0 :: more) = commandRow (w0 :: more) := by rw [rowOf, requestKind_eq, kind]; rfl

theorem judge_verb : judge (w0 :: more) = judgeCommand more := by rw [judge, requestKind_eq, kind]; rfl

end

/-! ### Rows 2 to 7 -/

theorem Space.ofWord_none {w : Word} (high : 9 < w.toNat) : Space.ofWord w = none := by
  unfold Space.ofWord
  generalize w.toNat = k at high
  split
  case h_11 => rfl
  all_goals omega

theorem Space.ofWord_some {w : Word} (low : w.toNat ≤ 9) : ∃ sp, Space.ofWord w = some sp := by
  unfold Space.ofWord
  generalize w.toNat = k at low
  interval_cases k <;> exact ⟨_, rfl⟩

theorem judgeRead_length (h : more.length ≠ 3) : judgeRead more = .refuse .badLength := by
  unfold judgeRead
  split
  · exact absurd rfl h
  · rfl

section
variable {space index count : Word}

theorem judgeRead_badSpace (high : 9 < space.toNat) : judgeRead [space, index, count] = .refuse .badSpace := by
  rw [judgeRead, Space.ofWord_none high]

theorem judgeRead_badCount (low : space.toNat ≤ 9) (bad : count.toNat = 0 ∨ 16 < count.toNat) :
    judgeRead [space, index, count] = .refuse .badLength := by
  obtain ⟨sp, named⟩ := Space.ofWord_some low
  rw [judgeRead, named]
  exact if_pos bad

theorem judgeRead_badIndex (low : space.toNat ≤ 9) (good : ¬ (count.toNat = 0 ∨ 16 < count.toNat))
    (beyond : Spec.spaceEntries space.toNat < index.toNat + count.toNat) : judgeRead [space, index, count] = .refuse .badIndex := by
  obtain ⟨sp, named⟩ := Space.ofWord_some low
  rw [← Space.entries_of_ofWord named] at beyond
  rw [judgeRead, named]
  exact (if_neg good).trans (if_pos beyond)

end

theorem judgeWrite_short (h : more.length < 3) : judgeWrite more = .refuse .badLength := by
  unfold judgeWrite
  split
  · exact absurd h (by simp)
  · rfl

/-- The sizes of the entries of the ten spaces in a WRITE, those of the read-only ones left out (R197). -/
theorem Space.writeSize_of_ofWord {w : Word} {sp : Space} (named : Space.ofWord w = some sp) :
    sp.writeSize = if w.toNat ≤ 5 then some ([8, 1, 13, 6, 1, 4].getD w.toNat 0) else none := by
  unfold Space.ofWord at named
  split at named <;> cases named <;> simp_all [Space.writeSize]

section
variable {space index count : Word} {entries : List Word}

theorem judgeWrite_badSpace (high : 9 < space.toNat) : judgeWrite (space :: index :: count :: entries) = .refuse .badSpace := by
  rw [judgeWrite, Space.ofWord_none high]

theorem judgeWrite_badCount (low : space.toNat ≤ 9) (bad : count.toNat = 0 ∨ 16 < count.toNat) :
    judgeWrite (space :: index :: count :: entries) = .refuse .badLength := by
  obtain ⟨sp, named⟩ := Space.ofWord_some low
  rw [judgeWrite, named]
  exact if_pos bad

theorem judgeWrite_readOnly (from6 : 6 ≤ space.toNat) (low : space.toNat ≤ 9) (good : ¬ (count.toNat = 0 ∨ 16 < count.toNat)) :
    judgeWrite (space :: index :: count :: entries) = .refuse .readOnly := by
  obtain ⟨sp, named⟩ := Space.ofWord_some low
  have width := Space.writeSize_of_ofWord named
  rw [if_neg (by omega)] at width
  rw [judgeWrite, named]
  refine (if_neg good).trans ?_
  rw [width]

theorem judgeWrite_badSize (low : space.toNat ≤ 5) (good : ¬ (count.toNat = 0 ∨ 16 < count.toNat))
    (sized : entries.length ≠ count.toNat * [8, 1, 13, 6, 1, 4].getD space.toNat 0) :
    judgeWrite (space :: index :: count :: entries) = .refuse .badLength := by
  obtain ⟨sp, named⟩ := Space.ofWord_some (show space.toNat ≤ 9 by omega)
  rw [judgeWrite, named]
  refine (if_neg good).trans ?_
  rw [Space.writeSize_of_ofWord named, if_pos low]
  exact if_pos sized

theorem judgeWrite_badIndex (low : space.toNat ≤ 5) (good : ¬ (count.toNat = 0 ∨ 16 < count.toNat))
    (sized : entries.length = count.toNat * [8, 1, 13, 6, 1, 4].getD space.toNat 0)
    (beyond : Spec.spaceEntries space.toNat < index.toNat + count.toNat) :
    judgeWrite (space :: index :: count :: entries) = .refuse .badIndex := by
  obtain ⟨sp, named⟩ := Space.ofWord_some (show space.toNat ≤ 9 by omega)
  rw [← Space.entries_of_ofWord named] at beyond
  rw [judgeWrite, named]
  refine (if_neg good).trans ?_
  rw [Space.writeSize_of_ofWord named, if_pos low]
  exact (if_neg (not_not.2 sized)).trans (if_pos beyond)

theorem judgeWrite_pass {sp : Space} (named : Space.ofWord space = some sp) (low : space.toNat ≤ 5)
    (good : ¬ (count.toNat = 0 ∨ 16 < count.toNat)) (sized : entries.length = count.toNat * [8, 1, 13, 6, 1, 4].getD space.toNat 0)
    (within : index.toNat + count.toNat ≤ Spec.spaceEntries space.toNat) :
    judgeWrite (space :: index :: count :: entries) = .pass (.write sp index.toNat count.toNat entries) := by
  rw [← Space.entries_of_ofWord named] at within
  rw [judgeWrite, named]
  refine (if_neg good).trans ?_
  rw [Space.writeSize_of_ofWord named, if_pos low]
  exact (if_neg (not_not.2 sized)).trans (if_neg (Nat.not_lt.2 within))

end

theorem judgeCommand_badSpace {verb argument : Word} (undefined : Verb.ofWord verb = none) :
    judgeCommand [verb, argument] = .refuse .badSpace := by
  rw [judgeCommand, undefined]

theorem judgeCommand_badIndex {verb argument : Word} {v : Verb} (defined : Verb.ofWord verb = some v) (link : v.namesLink = true)
    (beyond : 23 < argument.toNat) : judgeCommand [verb, argument] = .refuse .badIndex := by
  rw [judgeCommand, defined]
  exact if_pos ⟨link, beyond⟩

theorem judgeCommand_length (h : more.length ≠ 2) : judgeCommand more = .refuse .badLength := by
  unfold judgeCommand
  split
  · exact absurd rfl h
  · rfl

/-! ### The three kinds of request -/

section
variable (takes : Spec.takes s (w0 :: more) rest)
include takes

/-- A READ is refused with what its words are judged to be. -/
theorem read_refused (kind : w0.toNat / 256 = 1) {r : Result} (refused : judgeRead more = .refuse r) :
    exec .read s = .next (Spec.replied (Spec.taken s rest) (w0 :: more) r []) :=
  serves_read.refuses takes (rowOf_read kind) ((judge_read kind).trans refused)

/-- So is a WRITE, by the command of its space. -/
theorem write_refused (kind : w0.toNat / 256 = 2) (some : more ≠ []) {r : Result} (refused : judgeWrite more = .refuse r) :
    exec (Spec.writeCommand (more.getD 0 0).toNat) s = .next (Spec.replied (Spec.taken s rest) (w0 :: more) r []) := by
  cases more with
  | nil => exact absurd rfl some
  | cons space more => exact (serves_writeCommand w0 space more).refuses takes (rowOf_write kind) ((judge_write kind).trans refused)

/-- And a COMMAND, by the command of its verb. -/
theorem verb_refused (kind : w0.toNat / 256 = 3) (some : more ≠ []) {r : Result} (refused : judgeCommand more = .refuse r) :
    exec ((Spec.verbCommand (more.getD 0 0).toNat).getD .undefinedRequest) s =
      .next (Spec.replied (Spec.taken s rest) (w0 :: more) r []) := by
  cases more with
  | nil => exact absurd rfl some
  | cons verb more =>
    have row : commandRow (w0 :: verb :: more) = match Verb.ofWord verb with
      | Option.some v => .command v
      | none => .undefined := rfl
    have serves : Serves ((Spec.verbCommand verb.toNat).getD .undefinedRequest) (commandRow (w0 :: verb :: more)) := by
      rw [verbCommand_eq, row]
      cases Verb.ofWord verb with
      | none => exact serves_undefined
      | some v => exact serves_verb v
    exact serves.refuses takes (rowOf_verb kind) ((judge_verb kind).trans refused)

end

/-- Settles O50: the first row of R175 that applies, by the kind of the request. -/
theorem requestsAreCheckedInOrder : Obligations.RequestsAreCheckedInOrder := by
  refine ⟨fun s c listed idle => ?_, ?_⟩
  · have serves : ∃ row, Serves c row := by
      simp only [List.mem_cons, List.not_mem_nil, or_false] at listed
      rcases listed with rfl | rfl | rfl | rfl | rfl | rfl | rfl | rfl | rfl | rfl | rfl | rfl | rfl | rfl | rfl | rfl | rfl | rfl <;>
        exact ⟨_, _, fun _ => rfl⟩
    obtain ⟨row, serves⟩ := serves
    exact serves.idle idle
  · intro s w0 more rest content kind a index count countBad entries size refused takes
    refine ⟨fun read write verb => ?_, fun read => ?_, fun write => ?_, fun verb => ?_⟩
    · have row : rowOf content = .undefined := by
        rw [rowOf, requestKind_eq]
        split
        · next e => exact absurd e read
        · next e => exact absurd e write
        · next e => exact absurd e verb
        · rfl
      have verdict : judge content = .refuse .badSpace := by
        rw [judge, requestKind_eq]
        split
        · next e => exact absurd e read
        · next e => exact absurd e write
        · next e => exact absurd e verb
        · rfl
      exact serves_undefined.refuses takes row verdict
    · refine ⟨fun length => read_refused takes read (judgeRead_length length), ?_⟩
      have three (length : more.length = 3) : ∃ x y z, more = [x, y, z] := List.length_eq_three.1 length
      refine ⟨fun length high => ?_, fun length low bad => ?_, fun length low good beyond => ?_⟩
      all_goals obtain ⟨space, first, amount, rfl⟩ := three length
      · exact read_refused takes read (judgeRead_badSpace high)
      · exact read_refused takes read (judgeRead_badCount low bad)
      · exact read_refused takes read (judgeRead_badIndex low good beyond)
    · have long (length : 3 ≤ more.length) : ∃ x y z l, more = x :: y :: z :: l := by
        match more, length with
        | x :: y :: z :: l, _ => exact ⟨x, y, z, l, rfl⟩
      refine ⟨fun none => ?_, fun some short => write_refused takes write some (judgeWrite_short short), fun length high => ?_,
        fun length low bad => ?_, fun length from6 low good => ?_, fun length low good sized => ?_,
          fun length low good sized beyond => ?_⟩
      · subst none
        exact serves_write.refuses takes (rowOf_write write) ((judge_write write).trans (judgeWrite_short (by decide)))
      all_goals
        obtain ⟨space, first, amount, l, rfl⟩ := long length
        have served {r : Result} := write_refused takes write (List.cons_ne_nil space _) (r := r)
      · have row : Spec.writeCommand space.toNat = .write := writeCommand_eq_write (a := a) (by omega) (by omega) (by omega)
        exact row ▸ served (judgeWrite_badSpace high)
      · exact served (judgeWrite_badCount low bad)
      · have row : Spec.writeCommand space.toNat = .write := writeCommand_eq_write (a := a) (by omega) (by omega) (by omega)
        exact row ▸ served (judgeWrite_readOnly from6 low good)
      · exact served (judgeWrite_badSize low good sized)
      · exact served (judgeWrite_badIndex low good sized beyond)
    · have two (length : more.length = 2) : ∃ x y, more = [x, y] := List.length_eq_two.1 length
      have named {verb : Word} {v : Verb} (defined : Verb.ofWord verb = some v) : Spec.verbCommand verb.toNat = some v.instr := by
        rw [verbCommand_eq, defined]; rfl
      refine ⟨fun none => ?_, fun some length undefined => ?_, fun c some length defined => ?_, fun length undefined => ?_,
        fun length bar beyond => ?_, fun length unbar beyond => ?_⟩
      · subst none
        exact serves_undefined.refuses takes (rowOf_verb verb) ((judge_verb verb).trans (judgeCommand_length (by decide)))
      · have served := verb_refused takes verb some (judgeCommand_length length)
        rwa [show Spec.verbCommand (more.getD 0 0).toNat = none from undefined] at served
      · have served := verb_refused takes verb some (judgeCommand_length length)
        rwa [show Spec.verbCommand (more.getD 0 0).toNat = Option.some c from defined] at served
      all_goals
        obtain ⟨code, argument, rfl⟩ := two length
        have served {r : Result} := verb_refused takes verb (List.cons_ne_nil code _) (r := r)
      · have none : Verb.ofWord code = none := by
          have undefined : Spec.verbCommand code.toNat = Option.none := undefined
          rwa [verbCommand_eq, Option.map_eq_none_iff] at undefined
        have row : Spec.verbCommand code.toNat = Option.none := undefined
        have answer := served (judgeCommand_badSpace none)
        rwa [show ([code, argument].getD 0 0).toNat = code.toNat from rfl, row] at answer
      · have defined : Verb.ofWord code = some .barLink := by rw [Verb.ofWord, show code.toNat = 8 from bar]; rfl
        have answer := served (judgeCommand_badIndex defined rfl beyond)
        rwa [show ([code, argument].getD 0 0).toNat = code.toNat from rfl, named defined] at answer
      · have defined : Verb.ofWord code = some .unbarLink := by rw [Verb.ofWord, show code.toNat = 9 from unbar]; rfl
        have answer := served (judgeCommand_badIndex defined rfl beyond)
        rwa [show ([code, argument].getD 0 0).toNat = code.toNat from rfl, named defined] at answer

end Sys2Proof.Machine
end

section
/-! THEOREMS. Written fields and entries, and the codes of the lanes and of the enumerated values (O60). -/

namespace Sys2Proof.Machine

open Sys2Proof.Safety

/-! ### Clamped fields (R101, R178) -/

theorem clampNat_value {lo hi : Nat} (ordered : lo ≤ hi) (w : Word) : (clampNat lo hi w).value = Spec.clamped lo hi w := by
  rw [clampNat, Spec.clamped]
  split_ifs <;> dsimp only <;> omega

theorem clampNat_kept {lo hi : Nat} {w : Word} : (clampNat lo hi w).changed = false ↔ lo ≤ w.toNat ∧ w.toNat ≤ hi := by
  rw [clampNat]
  split_ifs <;> simp <;> omega

theorem clampNat_toWord {lo hi v : Nat} (low : lo ≤ v) (high : v ≤ hi) (small : hi < 65536) :
    clampNat lo hi (toWord v) = ⟨v, false⟩ := by
  have whole : (toWord v).toNat = v := by rw [toWord, BitVec.toNat_ofNat]; omega
  rw [clampNat, whole, if_neg (by omega), if_neg (by omega)]

theorem clampFin_value (n : Nat) (w : Word) : (clampFin n w).value.val = Spec.clamped 0 n w := by
  rw [clampFin, Spec.clamped]
  split
  · dsimp only; omega
  · rw [Fin.val_last]; omega

theorem clampFin_kept {n : Nat} {w : Word} : (clampFin n w).changed = false ↔ 0 ≤ w.toNat ∧ w.toNat ≤ n := by
  rw [clampFin]
  split <;> simp <;> omega

theorem clampFin_toWord {n : Nat} (i : Fin (n + 1)) (small : n < 65536) : clampFin n (toWord i.val) = ⟨i, false⟩ := by
  have whole : (toWord i.val).toNat = i.val := by rw [toWord, BitVec.toNat_ofNat]; omega
  rw [clampFin, dif_pos (by rw [whole]; exact i.isLt)]
  simp [whole]

theorem clampInt_value {lo hi : Int} (ordered : lo ≤ hi) (w : Word) : (clampInt lo hi w).value = max lo (min hi w.toInt) := by
  rw [clampInt]
  split_ifs <;> dsimp only <;> omega

theorem clampInt_kept {lo hi : Int} {w : Word} : (clampInt lo hi w).changed = false ↔ lo ≤ w.toInt ∧ w.toInt ≤ hi := by
  rw [clampInt]
  split_ifs <;> simp <;> omega

/-- The low bits of a word. -/
theorem field_low (w : Word) (len : Nat) : field w 0 len = w.toNat % 2 ^ len := by rw [field, Nat.shiftRight_zero]

/-- Two bits of a small number are the number. -/
theorem field_toWord {k : Nat} (small : k < 4) : field (toWord k) 0 2 = k := by
  rw [field_low, toWord, BitVec.toNat_ofNat]; omega

/-! ### Entries read back as they were written (R178, R197) -/

theorem generalOf_words {g : General} (range : GeneralInRange g) : generalOf g.words = ⟨g, false⟩ := by
  obtain ⟨segment, ahead, ahead', park, park', hold, hold', release, cells, cells', stall, stall'⟩ := range
  simp only [generalOf, General.words, List.getD_cons_zero, List.getD_cons_succ,
    clampNat_toWord (Nat.zero_le _) segment (by decide), clampNat_toWord ahead ahead' (by decide),
    clampNat_toWord park park' (by decide), clampNat_toWord hold hold' (by decide),
      clampNat_toWord (Nat.zero_le _) release (by decide),
    clampNat_toWord (Nat.zero_le _) cells (by decide), clampNat_toWord (Nat.zero_le _) cells' (by decide),
    clampNat_toWord stall stall' (by decide), Bool.or_false]

theorem ClassKind.ofCode_code (k : ClassKind) : ClassKind.ofCode k.code = k := by cases k <;> rfl

theorem ClassKind.code_lt (k : ClassKind) : k.code < 4 := by cases k <;> decide

theorem PadMode.ofCode_code (m : PadMode) : PadMode.ofCode m.code = m := by cases m <;> rfl

theorem PadMode.code_lt (m : PadMode) : m.code < 3 := by cases m <;> decide

/-- A link set is carried whole by its two words (R194). -/
theorem linkSetFrom_words (ls : LinkSet) : linkSetFrom (toWord ls.toNat) (toWord (ls.toNat / 65536)) = ls := by
  apply BitVec.eq_of_toNat_eq
  have := ls.isLt
  simp only [linkSetFrom, toWord, BitVec.toNat_ofNat]
  omega

theorem classOf_words {c : ClassEntry} (range : ClassInRange c) : classOf c.words = ⟨c, false⟩ := by
  obtain ⟨level, level', t1, t1', t2, late, drift, drift', pre, post, width, width', gap, cells, cells'⟩ := range
  simp only [classOf, ClassEntry.words, linkSetWords, List.cons_append, List.nil_append, List.getD_cons_zero, List.getD_cons_succ,
    field_toWord c.kind.code_lt, ClassKind.ofCode_code, linkSetFrom_words,
    clampNat_toWord level level' (by decide), clampNat_toWord t1 t1' (by decide), clampNat_toWord (Nat.zero_le _) t2 (by decide),
    clampNat_toWord (Nat.zero_le _) late (by decide), clampNat_toWord drift drift' (by decide),
    clampNat_toWord (Nat.zero_le _) pre (by decide), clampNat_toWord (Nat.zero_le _) post (by decide),
    clampNat_toWord width width' (by decide), clampNat_toWord (Nat.zero_le _) gap (by decide),
    clampNat_toWord cells cells' (by decide), Bool.or_false]

/-- The first word of a WINDOWS entry carries the valid flag and the direction (R197). -/
theorem windowFlags (valid : Bool) (d : Direction) :
    (toWord (flagAt valid 0 + atBit d.code 1)).getLsbD 0 = valid ∧
      Direction.ofBit ((toWord (flagAt valid 0 + atBit d.code 1)).getLsbD 1) = d := by
  cases valid <;> cases d <;> decide

theorem windowOf_words {w : MapWindow} (range : WindowInRange w) : windowOf w.words = ⟨w, false⟩ := by
  obtain ⟨channel, count, count', pad⟩ := range
  obtain ⟨valid, direction⟩ := windowFlags w.valid w.direction
  simp only [windowOf, MapWindow.words, List.getD_cons_zero, List.getD_cons_succ, valid, direction,
    clampFin_toWord w.link (by decide),
    clampFin_toWord w.row (by decide), clampNat_toWord (Nat.zero_le _) channel (by decide),
      clampNat_toWord count count' (by decide),
    clampNat_toWord (Nat.zero_le _) pad (by decide), Bool.or_false]

theorem padOf_words {p : Pad} (range : PadInRange p) : padOf p.words = ⟨p, false⟩ := by
  obtain ⟨pedestal, gain, threshold⟩ := range
  have mode := p.mode.code_lt
  have named : (p.mode.code == 3) = false := by simp; omega
  simp only [padOf, Pad.words, List.getD_cons_zero, List.getD_cons_succ, clampNat_toWord (Nat.zero_le _) pedestal (by decide),
    clampNat_toWord (Nat.zero_le _) gain (by decide), clampNat_toWord (Nat.zero_le _) threshold (by decide),
    field_toWord (show p.mode.code < 4 by omega), PadMode.ofCode_code, named, Bool.or_false]

theorem offsetOf_word {o : Int} (low : -64 ≤ o) (high : o ≤ 63) : offsetOf [BitVec.ofInt 16 o] = ⟨o, false⟩ := by
  have whole : (BitVec.ofInt 16 o).toInt = o := by rw [BitVec.toInt_ofInt, Int.bmod_eq_of_le] <;> omega
  rw [offsetOf, clampInt, List.getD_cons_zero, whole, if_neg (by omega), if_neg (by omega)]

/-! ### Codes and flags (R192, R194) -/

theorem decodeGroup_data (w : Word) : decodeGroup (BitVec.ofNat 18 (2 * 65536 + w.toNat)) = .data w := by
  have := w.isLt
  have group : (BitVec.ofNat 18 (2 * 65536 + w.toNat)).toNat = 2 * 65536 + w.toNat := by rw [BitVec.toNat_ofNat]; omega
  rw [decodeGroup, group, if_pos (by omega)]
  congr 1
  apply BitVec.eq_of_toNat_eq
  rw [BitVec.toNat_ofNat]; omega

/-- The flags as one number have each flag at its bit. -/
theorem FragFlags.toWord_getLsbD (f : FragFlags) (k : Nat) :
    f.toWord.getLsbD k =
      [f.feOverflow, f.fePartial, f.malformed, f.truncated, f.storeFull, f.unmapped, f.clipped, f.adopted, f.extra].getD k false :=
        by
  obtain ⟨a, b, c, d, e, g, h, i, j⟩ := f
  have low : ∀ k < 9, (FragFlags.mk a b c d e g h i j).toWord.getLsbD k = [a, b, c, d, e, g, h, i, j].getD k false := by
    revert a b c d e g h i j; decide
  have none : (FragFlags.mk a b c d e g h i j).toWord >>> 9 = 0#16 := by
    revert a b c d e g h i j; decide
  by_cases few : k < 9
  · exact low k few
  · have bit := congrArg (fun w : Word => w.getLsbD (k - 9)) none
    rw [BitVec.getLsbD_ushiftRight, BitVec.getLsbD_zero, show 9 + (k - 9) = k by omega] at bit
    rw [bit, List.getD_eq_default _ _ (by simpa using few)]

/-- The error causes in the order of their bits. -/
def errorCauses : List ErrorCause :=
  [.frontCrc, .frontOverflow, .frontStall, .frontOversize, .frontMalformed, .linkLost, .timingLost, .uplinkLost, .triggerDuplicate,
    .triggerRefused, .fragmentLate, .fragmentStray, .fragmentDuplicate, .storeExhausted, .requestDropped]

theorem errorCauses_bit {k : Nat} {e : ErrorCause} (here : errorCauses[k]? = some e) : e.bit = k := by
  obtain ⟨short, rfl⟩ := List.getElem?_eq_some_iff.1 here
  have small : k < 15 := short
  interval_cases k <;> rfl

/-- Settles O60: each group and each entry by its own lemma, the enumerated values by their tables. -/
theorem codesAndEntriesReadBack : Obligations.CodesAndEntriesReadBack := by
  refine ⟨fun c valid => ?_, fun g range => generalOf_words range, fun c range => classOf_words range,
    fun w range => windowOf_words range,
    fun p range => padOf_words range, fun o low high => offsetOf_word low high, rfl, rfl, rfl, rfl, rfl, rfl, rfl, rfl, rfl, rfl,
      rfl,
    fun f => f.toWord_getLsbD, fun s k e here => ?_⟩
  · cases c with
    | data w => exact ⟨_, rfl, decodeGroup_data w⟩
    | flow f => cases f <;> exact ⟨_, rfl, by decide⟩
    | error => exact absurd rfl valid
    | idle | start | endCode | cut => exact ⟨_, rfl, by decide⟩
  · rw [State.addError, withCause, errorCauses_bit here]

end Sys2Proof.Machine
end

section
/-! THEOREMS. A WRITE stores every entry with its fields clamped, and changes nothing else (O52, O53). -/

namespace Sys2Proof.Machine

open Sys2Proof.Safety

/-! ### A written entry (R101, R178, R197) -/

theorem generalOf_value (e : List Word) : (generalOf e).value = Spec.generalEntry e := by
  simp only [generalOf, Spec.generalEntry, clampNat_value (Nat.zero_le _), clampNat_value (show 1 ≤ 255 by decide),
    clampNat_value (show 1 ≤ 4095 by decide), clampNat_value (show 1 ≤ 64 by decide), clampNat_value (show 1 ≤ 1023 by decide)]

theorem generalOf_kept (e : List Word) : (generalOf e).changed = false ↔ Spec.generalFits e := by
  simp only [generalOf, Spec.generalFits, Spec.allFit, Bool.or_eq_false_iff, clampNat_kept, List.forall_mem_cons, List.not_mem_nil,
    false_imp_iff, implies_true, and_true, and_assoc]

theorem kindOfCode (w : Word) :
    ClassKind.ofCode (field w 0 2) = [ClassKind.disabled, .physics, .calibration, .pedestal].getD (w.toNat % 4) .disabled := by
  have small : w.toNat % 4 < 4 := Nat.mod_lt _ (by decide)
  rw [field_low, ClassKind.ofCode, show 2 ^ 2 = 4 from rfl, Nat.mod_mod]
  generalize w.toNat % 4 = k at small
  interval_cases k <;> rfl

theorem modeOfCode (w : Word) :
    PadMode.ofCode (field w 0 2) = [PadMode.active, .raw, .masked, .masked].getD (w.toNat % 4) .masked := by
  have small : w.toNat % 4 < 4 := Nat.mod_lt _ (by decide)
  rw [field_low, PadMode.ofCode, show 2 ^ 2 = 4 from rfl, Nat.mod_mod]
  generalize w.toNat % 4 = k at small
  interval_cases k <;> rfl

/-- The expected set is the low byte of its second word before its first word. -/
theorem linkSetFrom_eq (lo hi : Word) : linkSetFrom lo hi = hi.extractLsb' 0 8 ++ lo := by
  apply BitVec.eq_of_toNat_eq
  have := lo.isLt
  rw [BitVec.toNat_append, BitVec.extractLsb'_toNat, Nat.shiftRight_zero, linkSetFrom, BitVec.toNat_ofNat,
    ← Nat.shiftLeft_add_eq_or_of_lt this, Nat.shiftLeft_eq]
  omega

theorem classOf_value (e : List Word) : (classOf e).value = Spec.classEntry e := by
  simp only [classOf, Spec.classEntry, kindOfCode, linkSetFrom_eq, clampNat_value (Nat.zero_le _),
    clampNat_value (show 1 ≤ 64 by decide),
    clampNat_value (show 1 ≤ 16383 by decide), clampNat_value (show 1 ≤ 1024 by decide), clampNat_value (show 1 ≤ 4 by decide),
    clampNat_value (show 1 ≤ 256 by decide)]

theorem classOf_kept (e : List Word) : (classOf e).changed = false ↔ Spec.classFits e := by
  simp only [classOf, Spec.classFits, Spec.allFit, Bool.or_eq_false_iff, clampNat_kept, List.forall_mem_cons, List.not_mem_nil,
    false_imp_iff, implies_true, and_true, and_assoc]

theorem windowOf_value (e : List Word) : Spec.isWindow (windowOf e).value e :=
  ⟨rfl, rfl, clampFin_value 23 _, clampNat_value (Nat.zero_le _) _, clampNat_value (by decide) _, clampFin_value 47 _,
    clampNat_value (Nat.zero_le _) _⟩

theorem windowOf_kept (e : List Word) : (windowOf e).changed = false ↔ Spec.windowFits e := by
  simp only [windowOf, Spec.windowFits, Spec.allFit, Bool.or_eq_false_iff, clampNat_kept, clampFin_kept, List.forall_mem_cons,
    List.not_mem_nil, false_imp_iff, implies_true, and_true, and_assoc]

theorem padOf_value (e : List Word) : (padOf e).value = Spec.padEntry e := by
  simp only [padOf, Spec.padEntry, modeOfCode, clampNat_value (Nat.zero_le _)]

theorem padOf_kept (e : List Word) : (padOf e).changed = false ↔ Spec.padFits e := by
  simp only [padOf, Spec.padFits, Spec.allFit, Bool.or_eq_false_iff, clampNat_kept, List.forall_mem_cons, List.not_mem_nil,
    false_imp_iff, implies_true, and_true, and_assoc, beq_eq_false_iff_ne, field_low]
  rfl

theorem entryWords_one (k : Nat) (entries : List Word) : (entryWords 1 k entries).getD 0 0 = entries.getD k 0 := by
  rw [entryWords, Nat.mul_one]
  simp [List.getD_eq_getElem?_getD]

/-! ### Entries written one after another -/

/-- A table of the state: its entries by number, and how one is written. -/
structure Table (α : Type) where
  Entries : Type
  of : State → Entries
  put : State → Entries → State
  read : Entries → Nat → α
  write : Entries → Nat → α → Entries
  size : Nat
  named : Nat → Prop
  sound : Entries → Prop
  of_put : ∀ s b, of (put s b) = b
  put_put : ∀ s b c, put (put s b) c = put s c
  put_of : ∀ s, put s (of s) = s
  sound_write : ∀ b i a, sound b → sound (write b i a)
  read_write : ∀ b i k a, sound b → i < size → named k → read (write b i a) k = if k = i then a else read b k

/-- One entry of a table written with its clamped fields. -/
def Table.store {α : Type} (table : Table α) (f : List Word → Clamped α) (s : State) (index : Nat) (e : List Word) : State × Bool :=
  (table.put s (table.write (table.of s) index (f e).value), (f e).changed)

/-- A WRITE replaces the entries from its index on, and tells whether a field was clamped. -/
theorem Table.writeEach_eq {α : Type} (table : Table α) (f : List Word → Clamped α) (size index : Nat) (entries : List Word)
    {s : State}
    (sound : table.sound (table.of s)) {count : Nat} (within : index + count ≤ table.size) :
    ∃ b r, writeEach (table.store f) size index entries count s = (table.put s b, r) ∧ table.sound b
      ∧ (∀ k, table.named k → table.read b k =
          if index ≤ k ∧ k < index + count then (f (entryWords size (k - index) entries)).value else table.read (table.of s) k)
      ∧ (r = false ↔ ∀ k < count, (f (entryWords size k entries)).changed = false) := by
  induction count with
  | zero =>
    refine ⟨table.of s, false, by rw [writeEach, table.put_of], sound, fun k _ => ?_, ?_⟩
    · rw [if_neg (by omega)]
    · simp
  | succ count ih =>
    obtain ⟨b, r, written, kept, read, told⟩ := ih (by omega)
    refine ⟨table.write b (index + count) (f (entryWords size count entries)).value,
      r || (f (entryWords size count entries)).changed, ?_,
      table.sound_write _ _ _ kept, fun k small => ?_, ?_⟩
    · rw [writeEach, written, Table.store, table.of_put, table.put_put]
    · rw [table.read_write _ _ _ _ kept (by omega) small, read k small]
      by_cases last : k = index + count
      · rw [if_pos last, if_pos (by omega), last, Nat.add_sub_cancel_left]
      · rw [if_neg last]
        exact if_congr (by omega) rfl rfl
    · rw [Bool.or_eq_false_iff, told]
      refine ⟨fun h k small => ?_, fun all => ⟨fun k small => all k (by omega), all count (by omega)⟩⟩
      obtain ⟨before, now⟩ := h
      rcases Nat.lt_succ_iff_lt_or_eq.1 small with earlier | rfl
      · exact before k earlier
      · exact now

/-- A bank of the state is a table. -/
def Table.ofBank {α : Type} {n : Nat} [NeZero n] (of : State → Bank α n) (put : State → Bank α n → State)
    (of_put : ∀ s b, of (put s b) = b) (put_put : ∀ s b c, put (put s b) c = put s c) (put_of : ∀ s, put s (of s) = s) :
      Table α where
  Entries := Bank α n
  of := of
  put := put
  read := fun b k => b.get (Fin.ofNat n k)
  write := fun b i a => b.set (Fin.ofNat n i) a
  size := n
  named := fun k => k < n
  sound := fun _ => True
  of_put := of_put
  put_put := put_put
  put_of := put_of
  sound_write := fun _ _ _ _ => trivial
  read_write := fun b i k a _ hi hk => by
    rw [Bank.get_set]
    refine if_congr ?_ rfl rfl
    rw [Fin.ext_iff, Fin.val_ofNat, Fin.val_ofNat, Nat.mod_eq_of_lt hi, Nat.mod_eq_of_lt hk]

theorem Table.ofBank_read {α : Type} {n : Nat} [NeZero n] {of : State → Bank α n} {put : State → Bank α n → State}
    {of_put put_put put_of}
    (b : Bank α n) (k : Fin n) : (Table.ofBank of put of_put put_put put_of).read b k.val = b.get k :=
  congrArg b.get (Fin.ofNat_val_eq_self k)

def offsetTable : Table Int := .ofBank State.offsets (fun s b => { s with offsets := b }) (fun _ _ => rfl) (fun _ _ _ => rfl)
    fun _ => rfl

def classTable : Table ClassEntry := .ofBank State.classes (fun s b => { s with classes := b }) (fun _ _ => rfl) (fun _ _ _ => rfl)
    fun _ => rfl

def windowTable : Table MapWindow := .ofBank State.windows (fun s b => { s with windows := b }) (fun _ _ => rfl) (fun _ _ _ => rfl)
    fun _ => rfl

def rowTable : Table Nat := .ofBank State.rows (fun s b => { s with rows := b }) (fun _ _ => rfl) (fun _ _ _ => rfl) fun _ => rfl

def padTable : Table Pad where
  Entries := Memory Pad
  of := State.pads
  put := fun s b => { s with pads := b }
  read := Memory.read Pad.cold
  write := Memory.write Pad.cold
  size := 3072
  named := fun _ => True
  sound := fun b => Memory.wf Pad.cold b = true
  of_put := fun _ _ => rfl
  put_put := fun _ _ _ => rfl
  put_of := fun _ => rfl
  sound_write := fun _ i a h => Memory.wf_write i a h
  read_write := fun _ i k a h _ _ => Memory.read_write i k a h

/-- The tables are those that the machine's WRITE goes to. -/
theorem storeOffset_eq : State.storeOffset = offsetTable.store offsetOf := rfl

theorem storeClass_eq : State.storeClass = classTable.store classOf := rfl

theorem storeWindow_eq : State.storeWindow = windowTable.store windowOf := rfl

theorem storeRow_eq : State.storeRow = rowTable.store rowCountOf := rfl

theorem storePad_eq : State.storePad = padTable.store padOf := rfl

/-! ### A WRITE that passes the checks (R174 to R177) -/

section
variable {s : State} {number : BitVec 8} {space : Nat} {index count : Word} {entries : List Word} {rest : List (List Word)}
  {sp : Space}

theorem writeKind (number : BitVec 8) : (2#8 ++ number : Word).toNat / 256 = 2 := by
  rw [BitVec.toNat_append]
  have := number.isLt
  rw [← Nat.shiftLeft_add_eq_or_of_lt this, Nat.shiftLeft_eq]
  simp only [BitVec.toNat_ofNat]
  omega

theorem rowOf_writeRequest :
    rowOf (Spec.writeRequest number space index count entries) = writeRow (Spec.writeRequest number space index count entries) :=
  rowOf_write (writeKind number)

theorem judge_writeRequest (named : Space.ofWord (BitVec.ofNat 16 space) = some sp) (low : space ≤ 5) (some : 1 ≤ count.toNat)
    (few : count.toNat ≤ 16) (sized : entries.length = count.toNat * [8, 1, 13, 6, 1, 4].getD space 0)
    (within : index.toNat + count.toNat ≤ Spec.spaceEntries space) :
    judge (Spec.writeRequest number space index count entries) = .pass (.write sp index.toNat count.toNat entries) := by
  have whole : (BitVec.ofNat 16 space).toNat = space := by rw [BitVec.toNat_ofNat]; omega
  refine (judge_write (writeKind number)).trans (judgeWrite_pass named ?_ (by omega) ?_ ?_)
  · rw [whole]; exact low
  · rw [whole]; exact sized
  · rw [whole]; exact within

theorem State.take_writeRequest {row : RequestRow} {run : State → Request → Answer}
    (takes : Spec.takes s (Spec.writeRequest number space index count entries) rest)
    (belongs : writeRow (Spec.writeRequest number space index count entries) = row)
    (named : Space.ofWord (BitVec.ofNat 16 space) = some sp) (low : space ≤ 5) (some : 1 ≤ count.toNat) (few : count.toNat ≤ 16)
    (sized : entries.length = count.toNat * [8, 1, 13, 6, 1, 4].getD space 0)
    (within : index.toNat + count.toNat ≤ Spec.spaceEntries space) :
    s.take row run =
      let a := run (Spec.taken s rest) (.write sp index.toNat count.toNat entries)
      Spec.replied a.state (Spec.writeRequest number space index count entries) a.result a.data :=
  State.take_request takes (rowOf_writeRequest.trans belongs) (judge_writeRequest named low some few sized within) run

end

theorem writeResult_of {r : Bool} {fits : Prop} (told : r = false ↔ fits) :
    Spec.writeResult (if r then .clamped else .done) fits := by
  cases r with
  | false => exact ⟨fun _ => rfl, fun no => absurd (told.1 rfl) no⟩
  | true => exact ⟨fun yes => absurd (told.2 yes) (by decide), fun _ => rfl⟩

theorem State.tablesWritable_iff {s : State} : s.tablesWritable = true ↔ Spec.tablesOpen s := by
  simp [tablesWritable, Spec.tablesOpen]

theorem State.runWrite_shut {s : State} (shut : ¬ Spec.tablesOpen s) (sp : Space) (index count : Nat) (entries : List Word) :
    s.runWrite (.write sp index count entries) = s.refuse .badState := by
  have no : s.tablesWritable = false := Bool.eq_false_iff.2 fun yes => shut (tablesWritable_iff.1 yes)
  exact if_pos (by rw [no]; rfl)

theorem State.runWrite_open {s : State} (tables : Spec.tablesOpen s) (index count : Nat) (entries : List Word) :
    s.runWrite (.write .links index count entries) = writeAnswer (writeEach (offsetTable.store offsetOf) 1 index entries count s)
      ∧ s.runWrite (.write .classes index count entries) = writeAnswer
        (writeEach (classTable.store classOf) 13 index entries count s)
      ∧ s.runWrite (.write .pads index count entries) = writeAnswer (writeEach (padTable.store padOf) 4 index entries count s) := by
  have may : ¬ (!s.tablesWritable) = true := by rw [tablesWritable_iff.2 tables]; decide
  exact ⟨if_neg may, if_neg may, if_neg may⟩

/-- Single words, read as entries of one word. -/
theorem forall_entryWords_one {entries : List Word} {count : Nat} (length : entries.length = count) (p : Word → Prop) :
    (∀ k < count, p ((entryWords 1 k entries).getD 0 0)) ↔ ∀ w ∈ entries, p w := by
  subst length
  simp only [entryWords_one]
  refine ⟨fun all w mem => ?_, fun all k small => all _ ?_⟩
  · obtain ⟨k, small, rfl⟩ := List.getElem_of_mem mem
    have here := all k small
    rwa [List.getD_eq_getElem _ _ small] at here
  · rw [List.getD_eq_getElem _ _ small]; exact List.getElem_mem small

/-- A WRITE of the WRITE row that passes the checks is run on the state without the request. -/
theorem exec_write_passed {s : State} {number : BitVec 8} {space : Nat} {index count : Word} {entries : List Word}
    {rest : List (List Word)} {sp : Space} (takes : Spec.takes s (Spec.writeRequest number space index count entries) rest)
    (belongs : writeRow (Spec.writeRequest number space index count entries) = .write)
    (named : Space.ofWord (BitVec.ofNat 16 space) = some sp) (low : space ≤ 5) (some : 1 ≤ count.toNat) (few : count.toNat ≤ 16)
    (sized : entries.length = count.toNat * [8, 1, 13, 6, 1, 4].getD space 0)
    (within : index.toNat + count.toNat ≤ Spec.spaceEntries space) :
    exec .write s =
      .next
        (let a := (Spec.taken s rest).runWrite (.write sp index.toNat count.toNat entries)
        Spec.replied a.state (Spec.writeRequest number space index count entries) a.result a.data) := by
  show Host.Outcome.next (s.take .write State.runWrite) = _
  rw [State.take_writeRequest takes belongs named low some few sized within]

/-- Settles O52: the three tables by `Table.writeEach_eq`. -/
theorem tablesAreWrittenClamped : Obligations.TablesAreWrittenClamped := by
  intro s number space index count entries rest content low high fits takes some few within canonical
  refine ⟨fun sized shut => ?_, fun is sized tables => ?_, fun is sized tables => ?_, fun is sized tables => ?_⟩
  · have refused (sp : Space) := State.runWrite_shut (s := Spec.taken s rest) shut sp low count.toNat entries
    rcases sized with ⟨rfl, sized⟩ | ⟨rfl, sized⟩ | ⟨rfl, sized⟩
    · rw [exec_write_passed takes rfl rfl (by decide) some few (sized.trans (Nat.mul_one _).symm) within, refused]; rfl
    · rw [exec_write_passed takes rfl rfl (by decide) some few sized within, refused]; rfl
    · rw [exec_write_passed takes rfl rfl (by decide) some few sized within, refused]; rfl
  all_goals
    subst is
    obtain ⟨offsets, classes, pads⟩ := State.runWrite_open (s := Spec.taken s rest) tables low count.toNat entries
  · obtain ⟨b, r, written, -, read, told⟩ := offsetTable.writeEach_eq offsetOf 1 low entries (s := Spec.taken s rest) trivial within
    refine ⟨b, if r then .clamped else .done, ?_, fun n => ?_, writeResult_of (told.trans ?_)⟩
    · rw [exec_write_passed takes rfl rfl (by decide) some few (sized.trans (Nat.mul_one _).symm) within, offsets, written]; rfl
    · refine (Table.ofBank_read b n).symm.trans ((read n.val n.isLt).trans (if_congr Iff.rfl ?_ (Table.ofBank_read _ n)))
      rw [offsetOf, clampInt_value (by decide), entryWords_one]
    · simp only [offsetOf, clampInt_kept]
      exact forall_entryWords_one sized fun w => -64 ≤ w.toInt ∧ w.toInt ≤ 63
  · obtain ⟨b, r, written, -, read, told⟩ := classTable.writeEach_eq classOf 13 low entries (s := Spec.taken s rest) trivial within
    refine ⟨b, if r then .clamped else .done, ?_, fun k => ?_, writeResult_of (told.trans ?_)⟩
    · rw [exec_write_passed takes rfl rfl (by decide) some few sized within, classes, written]; rfl
    · exact (Table.ofBank_read b k).symm.trans
        ((read k.val k.isLt).trans (if_congr Iff.rfl (classOf_value _) (Table.ofBank_read _ k)))
    · simp only [classOf_kept]; rfl
  · obtain ⟨b, r, written, -, read, told⟩ := padTable.writeEach_eq padOf 4 low entries (s := Spec.taken s rest) canonical.2.1 within
    refine ⟨b, if r then .clamped else .done, ?_, fun k => ?_, writeResult_of (told.trans ?_)⟩
    · rw [exec_write_passed takes rfl rfl (by decide) some few sized within, pads, written]; rfl
    · exact (read k trivial).trans (if_congr Iff.rfl (padOf_value _) rfl)
    · simp only [padOf_kept]; rfl

/-! ### GENERAL, WINDOWS and ROWS (R101, R106) -/

theorem entryWords_whole {size : Nat} {entries : List Word} (length : entries.length = size) :
    entryWords size 0 entries = entries := by
  rw [entryWords, Nat.zero_mul, List.drop_zero, ← length, List.take_length]

theorem clampNat_zero_value (hi : Nat) (w : Word) : (clampNat 0 hi w).value = min hi w.toNat := by
  rw [clampNat_value (Nat.zero_le _), Spec.clamped, Nat.zero_max]

section
variable {s : State}

theorem State.runWriteWindows_setup (setup : s.runState = .setup) (sp : Space) (index count : Nat) (entries : List Word) :
    s.runWriteWindows (.write sp index count entries) = writeAnswer
      (writeEach (windowTable.store windowOf) 6 index entries count s) :=
  if_neg (not_not.2 setup)

theorem State.runWriteRows_setup (setup : s.runState = .setup) (sp : Space) (index count : Nat) (entries : List Word) :
    s.runWriteRows (.write sp index count entries) = writeAnswer (writeEach (rowTable.store rowCountOf) 1 index entries count s) :=
  if_neg (not_not.2 setup)

theorem State.runWriteGeneral_locked {entries : List Word} (locked : s.locked = true)
    (other : Spec.clamped 0 63 (entries.getD 0 0) ≠ s.general.segment) (sp : Space) (index count : Nat) :
    s.runWriteGeneral (.write sp index count entries) = s.refuse .locked :=
  if_pos ⟨locked, by rw [generalOf_value]; exact other⟩

/-- The lock does not refuse a WRITE to GENERAL that leaves the segment id alone. -/
theorem State.runWriteGeneral_free {entries : List Word}
    (free : s.locked = false ∨ Spec.clamped 0 63 (entries.getD 0 0) = s.general.segment) (sp : Space) (index count : Nat) :
    s.runWriteGeneral (.write sp index count entries) =
      if !s.tablesWritable then s.refuse .badState else writeAnswer (writeEach State.storeGeneral 8 index entries count s) := by
  refine if_neg ?_
  rintro ⟨locked, other⟩
  rw [generalOf_value] at other
  obtain no | same := free
  · rw [no] at locked; cases locked
  · exact other same

end

/-- Settles O53: GENERAL has one entry, WINDOWS and ROWS are tables. -/
theorem lockedSpacesAreWrittenInSetup : Obligations.LockedSpacesAreWrittenInSetup := by
  intro s number index count entries rest content low high fits segment some few
  refine ⟨fun takes within sized => ?_, fun takes within sized => ?_, fun takes within sized => ?_⟩
  · have one : count.toNat = 1 := by omega
    have executed : exec .writeGeneral s =
        .next (let a := (Spec.taken s rest).runWriteGeneral (.write .general low count.toNat entries)
          Spec.replied a.state (content 0) a.result a.data) := by
      show Host.Outcome.next (s.take .writeGeneral State.runWriteGeneral) = _
      exact congrArg _ (State.take_writeRequest (row := .writeGeneral) takes rfl rfl (by decide) some few (by rw [one]; exact sized)
        within)
    refine ⟨fun locked other => ?_, fun free shut => ?_, fun free tables => ?_⟩
    · rw [executed, State.runWriteGeneral_locked (s := Spec.taken s rest) locked other]; rfl
    · have no : (Spec.taken s rest).tablesWritable = false := Bool.eq_false_iff.2 fun yes => shut (State.tablesWritable_iff.1 yes)
      rw [executed, State.runWriteGeneral_free (s := Spec.taken s rest) free, no]; rfl
    · have yes : (Spec.taken s rest).tablesWritable = true := State.tablesWritable_iff.2 tables
      refine ⟨if (generalOf entries).changed then .clamped else .done, ?_, writeResult_of (generalOf_kept entries)⟩
      have stored : writeEach State.storeGeneral 8 low entries 1 (Spec.taken s rest) =
          ({ Spec.taken s rest with general := (generalOf entries).value }, (generalOf entries).changed) := by
        rw [writeEach, writeEach, State.storeGeneral, entryWords_whole sized, Bool.false_or]
      rw [executed, State.runWriteGeneral_free (s := Spec.taken s rest) free, yes, one, stored, generalOf_value]
      rfl
  · have executed : exec .writeWindows s =
        .next (let a := (Spec.taken s rest).runWriteWindows (.write .windows low count.toNat entries)
          Spec.replied a.state (content 3) a.result a.data) := by
      show Host.Outcome.next (s.take .writeWindows State.runWriteWindows) = _
      exact congrArg _ (State.take_writeRequest (row := .writeWindows) takes rfl rfl (by decide) some few sized within)
    refine ⟨fun shut => ?_, fun setup => ?_⟩
    · rw [executed, State.runWriteWindows, if_pos (show (Spec.taken s rest).runState ≠ .setup from shut)]; rfl
    · obtain ⟨b, r, written, -, read, told⟩ := windowTable.writeEach_eq windowOf 6 low entries (s := Spec.taken s rest) trivial
        within
      refine ⟨b, if r then .clamped else .done, ?_, fun i => ?_, writeResult_of (told.trans ?_)⟩
      · rw [executed, State.runWriteWindows_setup (s := Spec.taken s rest) setup, written]; rfl
      · have here := (Table.ofBank_read b i).symm.trans (read i.val i.isLt)
        refine ⟨fun inside => ?_, fun outside => ?_⟩
        · rw [if_pos inside] at here
          rw [here]
          exact windowOf_value _
        · rw [if_neg outside] at here
          exact here.trans (Table.ofBank_read _ i)
      · simp only [windowOf_kept]; rfl
  · have executed : exec .writeRows s =
        .next (let a := (Spec.taken s rest).runWriteRows (.write .rows low count.toNat entries)
          Spec.replied a.state (content 4) a.result a.data) := by
      show Host.Outcome.next (s.take .writeRows State.runWriteRows) = _
      exact congrArg _ (State.take_writeRequest (row := .writeRows) takes rfl rfl (by decide) some few
        (sized.trans (Nat.mul_one _).symm) within)
    refine ⟨fun shut => ?_, fun setup => ?_⟩
    · rw [executed, State.runWriteRows, if_pos (show (Spec.taken s rest).runState ≠ .setup from shut)]; rfl
    · obtain ⟨b, r, written, -, read, told⟩ := rowTable.writeEach_eq rowCountOf 1 low entries (s := Spec.taken s rest) trivial
        within
      refine ⟨b, if r then .clamped else .done, ?_, fun i => ?_, writeResult_of (told.trans ?_)⟩
      · rw [executed, State.runWriteRows_setup (s := Spec.taken s rest) setup, written]; rfl
      · refine (Table.ofBank_read b i).symm.trans ((read i.val i.isLt).trans (if_congr Iff.rfl ?_ (Table.ofBank_read _ i)))
        rw [rowCountOf, clampNat_zero_value, entryWords_one]
      · simp only [rowCountOf, clampNat_kept, Nat.zero_le, true_and]
        exact forall_entryWords_one sized fun w => w.toNat ≤ 192

end Sys2Proof.Machine
end

section
/-! THEOREMS. The start, the words and the end of an event frame, and reply frames (O46, O47, O49). -/

namespace Sys2Proof.Machine

variable {s : State} {x : Slot}

/-! ### The header (R160, R200) -/

theorem Slot.sectionCount_eq (x : Slot) : x.sectionCount = Spec.sectionCount x := by
  rw [sectionCount, Spec.sectionCount, List.countP_eq_length_filter, List.countP_eq_length_filter]
  congr 3 <;> funext n <;> rw [Bool.eq_iff_iff, beq_iff_eq, decide_eq_true_iff]

theorem State.expectedSet_words (filled : x.state ≠ .free) :
    linkSetWords (s.expectedSet x) = Spec.setWords fun n => ((s.classes.get x.cls).expected.getLsbD n.val) = true :=
  linkSetWords_eq fun n => by rw [expectedSet, if_neg filled]

theorem State.eventHeader_eq (filled : x.state ≠ .free) : s.eventHeader x = Spec.headerWords s x := by
  rw [eventHeader, Spec.headerWords, wide48_eq, expectedSet_words filled, Slot.linksIn_words, Slot.linksIn_words,
    Slot.linksIn_words,
    Slot.linksIn_words, Slot.extraSet_words, Slot.sectionCount_eq, atBit_eq, atBit_eq, atBit_eq]
  rfl

/-! ### The emitter at its boundary (R157, R159) -/

theorem State.atBoundary_iff : s.atBoundary = true ↔ s.emitter.frame = .none ∧ s.uplink.link = .live := by
  simp [atBoundary]

/-- The slot at get leaves the table when every cell of its frame has been returned (R163). -/
theorem Slot.cells_of_empty (empty : ∀ n r, x.records.get n = some r → r.cells = []) : x.cells = [] := by
  rw [cells, List.flatMap_eq_nil_iff]
  intro n _
  cases here : x.records.get n with
  | none => rfl
  | some r => exact empty n r here

theorem State.eventFrameEnd_idle (idle : s.emitter.frame ≠ .event ∨ s.emitter.held = true ∨ s.emitter.position ≠ .endNext) :
    s.eventFrameEnd = s := by
  refine if_neg ?_
  rintro ⟨event, going, last⟩
  obtain other | held | early := idle
  · exact other event
  · rw [going] at held; cases held
  · exact early last

theorem State.eventFrameEnd_ready (event : s.emitter.frame = .event) (going : s.emitter.held = false)
    (last : s.emitter.position = .endNext) :
    s.eventFrameEnd =
      (({ s with emitter := Emitter.idle }.emit .uplink .endCode).freeSlotAtGet.bump (.part .eventFramesSent)).bumpOption
        (s.slots.get s.get).status.counter := if_pos ⟨event, going, last⟩

theorem State.freeSlotAtGet_of_empty (empty : (s.slots.get s.get).cells = []) :
    s.freeSlotAtGet =
      { s with
        slots := s.slots.set s.get Slot.empty, deadlines := s.deadlines.set s.get Deadline.empty, get := s.get + 1
        fill := s.fill - 1 }.evalTiming := by
  rw [freeSlotAtGet_eq, Spec.cellsBack, if_pos empty]

/-- Settles O46: the conditions of R159 and of R162. -/
theorem eventFramesStartAndEnd : Obligations.EventFramesStartAndEnd := by
  intro s x ready
  have start : exec .eventFrameStart s = .next s.eventFrameStart := rfl
  have finish : exec .eventFrameEnd s = .next s.eventFrameEnd := rfl
  refine ⟨fun all => ?_, fun no => ?_, fun idle => by rw [finish, State.eventFrameEnd_idle idle], ?_⟩
  · obtain ⟨idle, live, empty, closed, go⟩ := all
    have may : s.atBoundary = true ∧ s.replies = [] ∧ (s.slots.get s.get).state = .closed ∧ s.farmFlow = .go :=
      ⟨State.atBoundary_iff.2 ⟨idle, live⟩, empty, closed, go⟩
    have filled : x.state ≠ .free := by rw [closed]; decide
    rw [start, State.eventFrameStart, if_pos may, State.eventHeader_eq filled]
    rfl
  · rw [start, State.eventFrameStart, if_neg]
    rintro ⟨boundary, empty, closed, go⟩
    obtain ⟨idle, live⟩ := State.atBoundary_iff.1 boundary
    exact no ⟨idle, live, empty, closed, go⟩
  · intro status counter listed event going last named sent
    have raised : status.counter = some (.part counter) := by
      simp only [List.mem_cons, List.not_mem_nil, or_false, Prod.mk.injEq] at listed
      obtain ⟨rfl, rfl⟩ | ⟨rfl, rfl⟩ | ⟨rfl, rfl⟩ := listed <;> rfl
    have cells : (s.slots.get s.get).cells = [] := Slot.cells_of_empty sent
    have freed := State.freeSlotAtGet_of_empty (s := State.emit { s with emitter := Emitter.idle } .uplink .endCode) cells
    rw [finish, State.eventFrameEnd_ready event going last, show (s.slots.get s.get).status = status from named, raised, freed]
    rfl

/-! ### The words of an event frame (R141, R163) -/

theorem State.eventWord_none_iff (s : State) (x : Slot) (p : Position) : s.eventWord x p = none ↔ p = .endNext := by
  cases p <;> simp [eventWord]

theorem State.eventFrameWordSent_idle (idle : s.emitter.frame ≠ .event ∨ s.emitter.held = true ∨ s.emitter.position = .endNext) :
    s.eventFrameWordSent = s := by
  rw [eventFrameWordSent]
  split
  · next going =>
    obtain ⟨event, going⟩ := going
    obtain other | held | last := idle
    · exact absurd event other
    · rw [going] at held; cases held
    · rw [(s.eventWord_none_iff _ _).2 last]
  · rfl

theorem State.eventFrameWordSent_word {w : Word} (event : s.emitter.frame = .event) (going : s.emitter.held = false)
    (word : s.eventWord (s.slots.get s.get) s.emitter.position = some w) : s.eventFrameWordSent = s.sendEventWord w := by
  rw [eventFrameWordSent, if_pos ⟨event, going⟩, word]

/-- A word completes a cell when it is the 64th of the cell or the last of the record. -/
theorem Slot.completesCell_iff {n : LinkNo} {r : FragRecord} (here : x.records.get n = some r) (k : Nat) :
    x.completesCell (.sect n k) = true ↔ 4 ≤ k ∧ ((k - 4) % 64 = 63 ∨ k - 3 = r.wordCount) := by
  have record : x.record n = r := by rw [record, here]; rfl
  match k with
  | 0 | 1 | 2 | 3 => simp [completesCell]
  | j + 4 =>
    show (decide (j % 64 = 63) || decide (j + 1 = (x.record n).wordCount)) = true ↔ _
    rw [record, Bool.or_eq_true, decide_eq_true_iff, decide_eq_true_iff]
    omega

theorem State.returnFirstCell_eq {i n} {r : FragRecord} (here : (s.slots.get i).records.get n = some r) :
    s.returnFirstCell i n =
      Spec.cellsBack (s.setSlot i { s.slots.get i with
        records := (s.slots.get i).records.set n (some { r with cells := r.cells.drop 1 }) }) (r.cells.take 1) := by
  rw [returnFirstCell, here]; rfl

theorem State.returnAt_other {i : SlotNo} {p : Position} (other : ∀ n k, p ≠ .sect n k) : s.returnAt i p = s := by
  cases p with
  | sect n k => exact absurd rfl (other n k)
  | _ => rfl

/-- Settles O47: only a word of a section can complete a cell. -/
theorem eventWordsReturnTheirCells : Obligations.EventWordsReturnTheirCells := by
  refine ⟨fun s idle => congrArg _ (State.eventFrameWordSent_idle idle), State.eventWord_none_iff, ?_⟩
  intro s w x p v event going word
  have executed : exec .eventFrameWordSent s = .next (v.returnAt s.get p) :=
    congrArg _ (State.eventFrameWordSent_word event going word)
  refine ⟨fun other => ?_, fun n k r here record => ⟨fun completes => ?_, fun goes => ?_⟩⟩
  · rw [executed, State.returnAt_other other]
  all_goals have record' : (v.slots.get s.get).records.get n = some r := record
  · rw [executed, here, State.returnAt, if_pos ((Slot.completesCell_iff record' k).2 completes), State.returnFirstCell_eq record']
    rfl
  · rw [executed, here, State.returnAt, if_neg fun c => goes ((Slot.completesCell_iff record' k).1 c)]

/-! ### Reply frames (R159, R167, R199) -/

theorem Reply.words_eq (r : Reply) :
    r.words = [BitVec.ofNat 16 (12288 + 256 * r.result.code + r.number.toNat), r.echo1, r.echo2, r.echo3] ++ r.data := by
  rw [words, atBit_eq, atBit_eq]; rfl

/-- Settles O49: the queue of replies and the emitter's frame decide. -/
theorem repliesAreSentInOrder : Obligations.RepliesAreSentInOrder := by
  have start (s : State) : exec .replyFrameStart s = .next s.replyFrameStart := rfl
  have finish (s : State) : exec .replyFrameEnd s = .next s.replyFrameEnd := rfl
  refine ⟨rfl, fun s empty => ?_, fun s idle => ?_, ?_⟩
  · rw [start, State.replyFrameStart, if_neg fun h => h.2 empty]
  · rw [finish, State.replyFrameEnd.eq_def]
    split
    · next reply queued =>
      obtain other | empty := idle
      · exact absurd reply other
      · rw [empty] at queued; cases queued
    · rfl
  intro s r rest content queued
  refine ⟨fun idle live => ?_, fun busy => ?_, fun sending => ?_⟩
  · have some : s.replies ≠ [] := by rw [queued]; exact List.cons_ne_nil _ _
    rw [start, State.replyFrameStart, if_pos ⟨State.atBoundary_iff.2 ⟨idle, live⟩, some⟩]
    rfl
  · rw [start, State.replyFrameStart, if_neg]
    rintro ⟨boundary, -⟩
    obtain ⟨idle, live⟩ := State.atBoundary_iff.1 boundary
    exact busy.elim (fun no => no idle) fun no => no live
  · have codes : r.codes = (content ++ [crcOf content]).map (fun w => (Lane.uplink, LaneCode.data w))
      ++ [(Lane.uplink, LaneCode.endCode)] := by
      rw [Reply.codes, Reply.words_eq]
    rw [finish, State.replyFrameEnd.eq_def, sending, queued]
    dsimp only
    rw [codes, ← List.append_assoc]
    rfl

end Sys2Proof.Machine
end

section
/-! THEOREMS. The expiries, the arbiter, and the grant of an adopted copy (O33, O34, O37). -/

namespace Sys2Proof.Machine

variable {s : State}

/-! ### The expiries (R32 to R34, R48) -/

theorem Bank.list_eq {α : Type} {n : Nat} (b : Bank α n) : b.list = (indices n).map b.get := by
  refine List.ext_getElem ?_ fun k _ _ => ?_
  · rw [b.len, List.length_map, indices, List.length_ofFn]
  · simp [indices, Bank.get_eq]

theorem Slot.awaited_eq (x : Slot) : x.awaited = Spec.awaitedCount x := by
  rw [awaited, Bank.count, Bank.list_eq, List.countP_map, List.countP_eq_length_filter, Spec.awaitedCount]
  congr 2
  funext n
  rw [Bool.eq_iff_iff, Function.comp_apply, beq_iff_eq, decide_eq_true_iff]

theorem State.deadlineDue_iff {i : SlotNo} {stage : Stage} :
    s.deadlineDue i stage = true ↔ (s.deadlines.get i).stage = stage ∧ (s.deadlines.get i).expiry = s.timebase := by
  simp [deadlineDue]

theorem extendsAt_iff {c : ClassEntry} {a : Nat} : extendsAt c a = true ↔ 1 ≤ a ∧ a ≤ c.stragglers ∧ 0 < c.t2 := by
  simp [extendsAt, and_assoc]

theorem State.firstExpiry_due {i : SlotNo} (opened : (s.slots.get i).state = .opened) (stage : (s.deadlines.get i).stage = .first)
    (due : (s.deadlines.get i).expiry = s.timebase) :
    s.firstExpiry i = if extendsAt (s.classes.get (s.slots.get i).cls) (s.slots.get i).awaited then s.extendSlot i
      else s.closeSlot i .firstDeadline :=
  if_pos ⟨opened, deadlineDue_iff.2 ⟨stage, due⟩⟩

theorem State.secondExpiry_due {i : SlotNo} (extended : (s.slots.get i).state = .extended)
    (stage : (s.deadlines.get i).stage = .second)
    (due : (s.deadlines.get i).expiry = s.timebase) : s.secondExpiry i = s.closeSlot i .secondDeadline :=
  if_pos ⟨extended, deadlineDue_iff.2 ⟨stage, due⟩⟩

theorem State.firstExpiry_early {i : SlotNo}
    (early : (s.slots.get i).state ≠ .opened ∨ (s.deadlines.get i).stage ≠ .first ∨ (s.deadlines.get i).expiry ≠ s.timebase) :
    s.firstExpiry i = s := by
  refine if_neg ?_
  rintro ⟨opened, both⟩
  obtain ⟨stage, due⟩ := deadlineDue_iff.1 both
  exact early.elim (fun no => no opened) fun no => no.elim (fun no => no stage) fun no => no due

theorem State.secondExpiry_early {i : SlotNo}
    (early : (s.slots.get i).state ≠ .extended ∨ (s.deadlines.get i).stage ≠ .second ∨ (s.deadlines.get i).expiry ≠ s.timebase) :
    s.secondExpiry i = s := by
  refine if_neg ?_
  rintro ⟨extended, both⟩
  obtain ⟨stage, due⟩ := deadlineDue_iff.1 both
  exact early.elim (fun no => no extended) fun no => no.elim (fun no => no stage) fun no => no due

theorem State.orphanDue_iff {o : Orphan} : s.orphanDue o = true ↔ o.parkTime + BitVec.ofNat 32 s.general.parkTime = s.timebase :=
  beq_iff_eq

theorem State.orphanExpiry_early (early : ∀ o ∈ s.orphans, o.parkTime + BitVec.ofNat 32 s.general.parkTime ≠ s.timebase) :
    s.orphanExpiry = s := by
  have none : s.orphans.find? s.orphanDue = none := List.find?_eq_none.2 fun o mem due => early o mem (orphanDue_iff.1 due)
  rw [orphanExpiry, none]

/-- The oldest entry that is due stands behind entries that are not. -/
theorem State.orphanExpiry_due {o : Orphan} {before later : List Orphan} (list : s.orphans = before ++ o :: later)
    (due : o.parkTime + BitVec.ofNat 32 s.general.parkTime = s.timebase)
    (early : ∀ p ∈ before, p.parkTime + BitVec.ofNat 32 s.general.parkTime ≠ s.timebase) :
    s.orphanExpiry =
      Spec.cellsBack ((Spec.stray { s with orphans := before ++ later } o.link).bump (.part .orphansExpired)) o.cells := by
  have quiet : ∀ p ∈ before, ¬ s.orphanDue p = true := fun p mem h => early p mem (orphanDue_iff.1 h)
  have here : s.orphanDue o = true := orphanDue_iff.2 due
  have found : s.orphans.find? s.orphanDue = some o := by
    rw [list, List.find?_append, List.find?_eq_none.2 quiet, Option.none_or, List.find?_cons_of_pos here]
  have left : s.withoutOldestDue = before ++ later := by
    rw [withoutOldestDue, list, List.eraseP_append_right _ quiet, List.eraseP_cons_of_pos here]
  rw [orphanExpiry, found, left]
  rfl

/-- Settles O33: each expiry where it is due and where it is not. -/
theorem expiriesExtendCloseOrDrop : Obligations.ExpiriesExtendCloseOrDrop := by
  refine ⟨?_, fun s early => congrArg _ (State.orphanExpiry_early early),
    fun s o before later list due early => congrArg _ (State.orphanExpiry_due list due early)⟩
  intro s i x d c a
  have first : exec (.firstExpiry i) s = .next (s.firstExpiry i) := rfl
  have second : exec (.secondExpiry i) s = .next (s.secondExpiry i) := rfl
  refine ⟨fun opened stage due => ⟨fun few => ?_, fun many => ?_⟩, fun extended stage due => ?_,
    fun early => by rw [first, State.firstExpiry_early early], fun early => by rw [second, State.secondExpiry_early early]⟩
  · rw [first, State.firstExpiry_due opened stage due, Slot.awaited_eq, if_pos (extendsAt_iff.2 few)]; rfl
  · rw [first, State.firstExpiry_due opened stage due, Slot.awaited_eq, if_neg, State.closeSlot_eq]
    · rfl
    · intro yes
      obtain ⟨low, high, longer⟩ := extendsAt_iff.1 yes
      obtain none | over_ | zero := many
      · exact absurd low (by rw [show Spec.awaitedCount (s.slots.get i) = 0 from none]; decide)
      · exact absurd high (Nat.not_le.2 over_)
      · exact absurd longer (by rw [show (s.classes.get (s.slots.get i).cls).t2 = 0 from zero]; decide)
  · rw [second, State.secondExpiry_due extended stage due, State.closeSlot_eq]; rfl

/-! ### The arbiter (R109 to R111) -/

theorem State.requesting_iff {r : Requester} : s.requesting r = true ↔ Spec.requests s r := by
  have adoption : (!s.adoption.isEmpty) = true ↔ s.adoption ≠ [] := by simp
  rw [requesting]
  split
  · next front =>
    have link : r = (⟨r.val, front⟩ : LinkNo).castSucc := rfl
    have waits : (s.front.get ⟨r.val, front⟩).requests = true ↔
        (s.front.get ⟨r.val, front⟩).waiting ≠ [] ∧ (s.front.get ⟨r.val, front⟩).held = none := by
      simp [FrontLink.requests]
    rw [waits]
    refine ⟨fun here => .inl ⟨_, link, here⟩, ?_⟩
    rintro (⟨n, same, here⟩ | ⟨last, -⟩)
    · obtain rfl : (⟨r.val, front⟩ : LinkNo) = n := Fin.ext (show r.val = n.val from congrArg Fin.val same)
      exact here
    · rw [last] at front; exact absurd front (by decide)
  · next beyond =>
    have last : r = 24 := Fin.ext (by have := r.isLt; show r.val = 24; omega)
    rw [adoption]
    refine ⟨fun some => .inr ⟨last, some⟩, ?_⟩
    rintro (⟨n, same, -⟩ | ⟨-, some⟩)
    · exact absurd (same ▸ n.isLt : r.val < 24) beyond
    · exact some

theorem State.urgentRequester_iff {r : Requester} : s.urgentRequester r = true ↔ Spec.urgent s r := by
  rw [urgentRequester]
  split
  · next front =>
    rw [FrontLink.urgent, decide_eq_true_iff]
    refine ⟨fun high => ⟨⟨r.val, front⟩, rfl, high⟩, ?_⟩
    rintro ⟨n, same, high⟩
    obtain rfl : (⟨r.val, front⟩ : LinkNo) = n := Fin.ext (show r.val = n.val from congrArg Fin.val same)
    exact high
  · next beyond =>
    refine ⟨fun no => absurd no (by decide), ?_⟩
    rintro ⟨n, same, -⟩
    exact absurd (same ▸ n.isLt : r.val < 24) beyond

/-- A requester's place is its index in rotation order. -/
theorem State.place_lt (s : State) (r : Requester) : Spec.place s r < 25 := Nat.mod_lt _ (by decide)

theorem State.rotation_place (s : State) (r : Requester) : (Fin.ofNat 25 (s.rotation.val + 1 + Spec.place s r) : Requester) = r :=
  by
  have := r.isLt
  have := s.rotation.isLt
  apply Fin.ext
  rw [Fin.val_ofNat, Spec.place]
  omega

theorem State.place_rotation (s : State) {k : Nat} (small : k < 25) : Spec.place s (Fin.ofNat 25 (s.rotation.val + 1 + k)) = k := by
  have := s.rotation.isLt
  rw [Spec.place, Fin.val_ofNat]
  omega

/-- The first requester in rotation order that meets a test. -/
theorem State.find_rotation {p : Requester → Bool} {r : Requester} (found : (rotationOrder s.rotation).find? p = some r) :
    p r = true ∧ ∀ q, p q = true → Spec.place s r ≤ Spec.place s q := by
  rw [rotationOrder, List.find?_map, Option.map_eq_some_iff] at found
  obtain ⟨k, first, rfl⟩ := found
  rw [List.find?_range_eq_some] at first
  obtain ⟨here, small, before⟩ := first
  rw [List.mem_range] at small
  refine ⟨here, fun q meets => ?_⟩
  rw [s.place_rotation small]
  by_contra earlier
  have no := before (Spec.place s q) (by omega)
  rw [Function.comp_apply, s.rotation_place, meets] at no
  cases no

theorem State.find_rotation_none {p : Requester → Bool} : (rotationOrder s.rotation).find? p = none ↔ ∀ r, p r = false := by
  rw [List.find?_eq_none]
  refine ⟨fun all r => Bool.eq_false_iff.2 (all r ?_), fun all r _ => by rw [all r]; decide⟩
  rw [rotationOrder, List.mem_map]
  exact ⟨Spec.place s r, List.mem_range.2 (s.place_lt r), s.rotation_place r⟩

theorem State.chosen_none_iff : s.chosen = none ↔ ∀ r, ¬ Spec.requests s r := by
  have requesting : (rotationOrder s.rotation).find? s.requesting = none ↔ ∀ r, ¬ Spec.requests s r := by
    rw [find_rotation_none]
    exact forall_congr' fun r => by rw [← requesting_iff, Bool.not_eq_true]
  rw [chosen]
  split
  · next r found =>
    refine ⟨fun no => (nomatch no), fun all => absurd ?_ (all r)⟩
    have both := (find_rotation found).1
    rw [Bool.and_eq_true] at both
    exact requesting_iff.1 both.2
  · exact requesting

/-- Settles O34: the first urgent requester in rotation order, and else the first. -/
theorem arbiterChoosesInRotation : Obligations.ArbiterChoosesInRotation := by
  intro s
  refine ⟨State.chosen_none_iff, fun b idle => ?_, fun r chosen => ?_⟩
  · show Host.Outcome.next (s.arbiterGrant b) = .next s
    rw [State.arbiterGrant]
    split
    · rfl
    · next free => rw [State.chosen_none_iff.2 (idle.resolve_left fun busy => busy free)]
  · have urgents {q : Requester} : (s.urgentRequester q && s.requesting q) = true ↔ Spec.urgent s q ∧ Spec.requests s q := by
      rw [Bool.and_eq_true, State.urgentRequester_iff, State.requesting_iff]
    rw [State.chosen] at chosen
    split at chosen
    · next found =>
      cases chosen
      obtain ⟨here, first⟩ := State.find_rotation found
      obtain ⟨urgent, requests⟩ := urgents.1 here
      exact ⟨requests, fun q asks high => ⟨urgent, first q (urgents.2 ⟨high, asks⟩)⟩, fun calm => absurd urgent (calm r requests)⟩
    · next none =>
      obtain ⟨here, first⟩ := State.find_rotation chosen
      refine ⟨State.requesting_iff.1 here, fun q asks high => ?_, fun _ q asks => first q (State.requesting_iff.2 asks)⟩
      have no := State.find_rotation_none.1 none q
      rw [urgents.2 ⟨high, asks⟩] at no
      cases no

/-! ### The grant of the adoption queue (R11, R50, R51) -/

theorem State.readChain_eq (s : State) (cells : List Nat) (w : Nat) : s.readChain cells w = Spec.chainWords s cells w := rfl

/-- The third header word of a copy that has three. -/
theorem State.chainWords_getD (s : State) (cells : List Nat) {w k : Nat} (long : k < w) :
    (Spec.chainWords s cells w).getD k 0 = Memory.read 0 s.store (Spec.wordPlace cells k) := by
  rw [Spec.chainWords, List.getD_eq_getElem _ _ (by simpa using long)]
  simp

theorem FragFlags.ofHeader_eq (w : Word) (adopted : Bool) : FragFlags.ofHeader w adopted = Spec.startFlags w adopted := rfl

theorem State.grant_last (s : State) (noticeFirst : Bool) : s.grant 24 noticeFirst = { s with rotation := 24 }.grantAdoption := rfl

theorem Slot.findAdopted_expected {x : Slot} {e : Adopted} (expected : e.expected = true) :
    x.findAdopted e = .condition := if_pos expected

theorem Slot.findAdopted_candidate {x : Slot} {e : Adopted} (candidate : e.expected = false) :
    x.findAdopted e = if !x.isOpen then .late else if (x.extras.get e.link).isSome then .duplicate else .extra :=
  if_neg (by rw [candidate]; decide)

/-- Settles O37: the slot the entry names, and the finding there. -/
theorem adoptedCopiesMeetTheirSlot : Obligations.AdoptedCopiesMeetTheirSlot := by
  intro s b e rest x v flags job free chosen queued long
  have third : (s.readChain e.cells e.wordCount).getD 2 0 = Memory.read 0 s.store (e.cells.getD 0 0 * 64 + 2) := by
    rw [s.readChain_eq, s.chainWords_getD e.cells (show 2 < e.wordCount by omega)]; rfl
  have executed : exec (.arbiterGrant b) s =
      .next (if x.state ≠ .free ∧ x.tag = e.tag then v.grantEntry e s.anyUrgent else (v.lateAtLink e.link).returnCells e.cells) :=
        by
    show Host.Outcome.next (s.arbiterGrant b) = _
    rw [State.arbiterGrant_of_chosen free chosen, State.grant_last, State.grantAdoption]
    dsimp only
    rw [queued]
    rfl
  have start : newJob 24 e.link (.copy e.cells e.wordCount) e.slot e.tag s.anyUrgent
      (FragFlags.ofHeader ((v.readChain e.cells e.wordCount).getD 2 0) true) = job := by
    rw [s.anyUrgent_eq, FragFlags.ofHeader_eq, show (v.readChain e.cells e.wordCount).getD 2 0 = _ from third]; rfl
  refine ⟨fun filled carries => ?_, fun gone => ?_⟩
  · rw [executed, if_pos ⟨filled, carries⟩, State.grantEntry]
    dsimp only
    rw [start]
    refine ⟨fun expected => ?_, fun candidate opened fresh => ?_, fun candidate opened known => ?_, fun candidate shut => ?_⟩
    · rw [Slot.findAdopted_expected expected]; rfl
    all_goals rw [Slot.findAdopted_candidate candidate]
    · have yes : (v.slots.get e.slot).isOpen = true := (Slot.isOpen_iff _).2 opened
      rw [yes, show (v.slots.get e.slot).extras.get e.link = none from fresh]; rfl
    · have yes : (v.slots.get e.slot).isOpen = true := (Slot.isOpen_iff _).2 opened
      have some : ((v.slots.get e.slot).extras.get e.link).isSome = true := Option.isSome_iff_ne_none.2 known
      rw [yes, some]; rfl
    · have no : (v.slots.get e.slot).isOpen = false := Bool.eq_false_iff.2 fun yes => shut ((Slot.isOpen_iff _).1 yes)
      rw [no]; rfl
  · rw [executed, if_neg]
    · rfl
    · rintro ⟨filled, carries⟩
      exact gone.elim (fun no => filled no) fun no => no carries

end Sys2Proof.Machine
end

section
/-! THEOREMS. The receivers and the flow states, by the moves (O16, O17). -/

namespace Sys2Proof.Machine

open Sys2Proof.Safety

variable {s t : State} {g h : Transit}

/-! ### The receivers (R76 to R92) -/

/-- The front link as it would stand with a PENDING notice delivered. -/
def FrontLink.told (f : FrontLink) : FrontLink :=
  { f with notice := if f.notice = .pending then .delivered else f.notice }

theorem FrontLink.told_of_not_pending {f : FrontLink} (settled : f.notice ≠ .pending) : f.told = f := by
  rw [told, if_neg settled]

/-- A front link is sound when it is sound apart from its notice, and no notice is PENDING without a waiting frame. -/
theorem FrontSound.told_iff {f : FrontLink} : FrontSound f ↔ FrontSound f.told ∧ (f.notice = .pending → f.waiting ≠ []) := by
  by_cases pending : f.notice = .pending
  · refine ⟨fun sound => ?_, fun sound => ?_⟩
    · obtain ⟨rx, hold, room, waiting, held, inFrame, live, waits⟩ := sound
      refine ⟨⟨rx, hold, room, waiting, held, inFrame, fun up => ?_, fun e => ?_⟩, waits⟩
      · cases pending.symm.trans (live up)
      · rw [FrontLink.told, if_pos pending] at e
        cases e
    · obtain ⟨⟨rx, hold, room, waiting, held, inFrame, live, -⟩, waits⟩ := sound
      refine ⟨rx, hold, room, waiting, held, inFrame, fun up => ?_, waits⟩
      have none := live up
      rw [FrontLink.told, if_pos pending] at none
      cases none
  · rw [FrontLink.told_of_not_pending pending]
    exact ⟨fun sound => ⟨sound, fun e => absurd e pending⟩, And.left⟩

/-- The flow decision reads no notice. -/
theorem State.decided_notice (s : State) (f : FrontLink) (notice : NoticeState) :
    s.decided { f with notice := notice } = { s.decided f with notice := notice } := by
  rw [decided, decided]
  show (if frontDecision f.occupancy f.flow = f.flow then _ else _) = _
  split <;> rfl

theorem State.decided_waiting (s : State) (f : FrontLink) :
    (s.decided f).notice = f.notice ∧ (s.decided f).waiting = f.waiting ∧ (s.decided f).rx.link = f.rx.link := by
  rw [decided]
  split <;> exact ⟨rfl, rfl, rfl⟩

theorem State.decided_told (s : State) (f : FrontLink) : (s.decided f).told = s.decided f.told := by
  rw [FrontLink.told, (s.decided_waiting f).1]
  exact (s.decided_notice f _).symm

/-- The receivers are sound within an event: a grant has left its notice to be seen to, and until then it may be PENDING with
no waiting frame (R92). -/
def ReceiversWith (g : Transit) (s : State) : Prop :=
  ReceiversSound { s with front := s.front.map FrontLink.told }
    ∧ ∀ n, g.notice ≠ some n → (s.front.get n).notice = .pending → (s.front.get n).waiting ≠ []

theorem receiversWith_none (quiet : g.notice = none) : ReceiversWith g s ↔ ReceiversSound s := by
  simp only [ReceiversWith, ReceiversSound, Bank.get_map, quiet, ne_eq, reduceCtorEq, not_false_iff, forall_const]
  refine ⟨fun ⟨⟨front, rest⟩, waits⟩ => ⟨fun n => FrontSound.told_iff.2 ⟨front n, waits n⟩, rest⟩, fun ⟨front, rest⟩ =>
    ⟨⟨fun n => (FrontSound.told_iff.1 (front n)).1, rest⟩, fun n => (FrontSound.told_iff.1 (front n)).2⟩⟩

/-- One front link replaced. -/
theorem ReceiversWith.setFront (k : ReceiversWith g s) {n : LinkNo} {f : FrontLink}
    (sound : FrontSound (s.front.get n).told → FrontSound f.told)
    (others : ∀ m, m ≠ n → h.notice ≠ some m → g.notice ≠ some m)
    (waits : h.notice ≠ some n → f.notice = .pending → f.waiting ≠ []) : ReceiversWith h (s.setFront n f) := by
  obtain ⟨⟨front, rest⟩, waiting⟩ := k
  have old := front n
  rw [Bank.get_map] at old
  refine ⟨⟨fun m => ?_, rest⟩, fun m quiet => ?_⟩
  · show FrontSound (((s.front.set n f).map FrontLink.told).get m)
    rw [Bank.get_map, Bank.get_set]
    split
    · exact sound old
    · have kept := front m
      rwa [Bank.get_map] at kept
  · rw [State.setFront_front, Bank.get_set]
    split
    · next e => exact waits (e ▸ quiet)
    · next e => exact waiting m (others m e quiet)

/-- A receiver after a warm reset (R95). -/
theorem Receiver.receiverSound_warm {r : Receiver} (sound : ReceiverSound r) : ReceiverSound r.warm ∧ r.warm.link = r.link := by
  obtain ⟨dark, quiet, crc, errors, idles⟩ := sound
  rw [Receiver.warm]
  split
  · next receiving =>
    refine ⟨⟨fun e => ?_, fun _ => ⟨rfl, rfl⟩, rfl, errors, idles⟩, rfl⟩
    cases receiving.symm.trans (dark e)
  · exact ⟨⟨dark, quiet, crc, errors, idles⟩, rfl⟩

/-- A front link after a warm reset: no frame is left, and no notice is PENDING (R92, R95). -/
theorem FrontLink.sound_warm {f : FrontLink} (sound : FrontSound f) : FrontSound f.warm := by
  obtain ⟨rx, -, -, -, -, -, live, -⟩ := sound
  obtain ⟨warm, link⟩ := Receiver.receiverSound_warm rx
  obtain ⟨empty, stands⟩ := Receiver.quiet_warm rx
  refine ⟨warm, fun _ => stands, ?_, nofun, nofun, ?_, fun up => ?_, fun e => ?_⟩
  · simp [FrontLink.occupancy, FrontLink.warm, empty]
  · simp [FrontLink.warm, empty]
  · have none := live (link.symm.trans up)
    rw [FrontLink.warm, none]
    rfl
  · rw [FrontLink.warm] at e
    dsimp only at e
    split at e
    · cases e
    · next other => exact absurd e other

theorem receiversSound_wiped (k : ReceiversSound s) (e : Emitter) : ReceiversSound (s.wiped e) := by
  obtain ⟨front, timing, uplink, notBarred, upNotBarred, words, upWords⟩ := k
  obtain ⟨warm, link⟩ := Receiver.receiverSound_warm timing
  refine ⟨fun n => ?_, warm, uplink, fun barred => notBarred (link.symm.trans barred), upNotBarred, ?_, upWords⟩
  · show FrontSound ((s.front.map FrontLink.warm).get n)
    rw [Bank.get_map]
    exact FrontLink.sound_warm (front n)
  · show s.timing.warm.words.length ≤ 6
    rw [(Receiver.quiet_warm timing).1]
    exact Nat.zero_le _

/-- What leaves every lane alone keeps the receivers. -/
theorem ReceiversWith.congr (k : ReceiversWith g s) (front : t.front = s.front) (timing : t.timing = s.timing)
    (uplink : t.uplink = s.uplink) : ReceiversWith g t := by
  rw [ReceiversWith, ReceiversSound] at k ⊢
  rwa [front, timing, uplink]

/-- A frame that leaves the FIFO keeps its front link sound (R87). -/
theorem FrontLink.released_sound {f : FrontLink} (sound : FrontSound f) : FrontSound { f with held := none } := by
  obtain ⟨rx, hold, room, waiting, -, rest⟩ := sound
  refine ⟨rx, hold, ?_, waiting, nofun, rest⟩
  rw [FrontLink.occupancy] at room ⊢
  exact le_trans (by simp) room

theorem FrontLink.granting_sound {f : FrontLink} {frame : List Word} {rest : List (List Word)} (waits : f.waiting = frame :: rest)
    (free : f.held = none) (sound : FrontSound f.told) : FrontSound (f.granting frame rest).told := by
  obtain ⟨rx, hold, room, waiting, -, inFrame, live, -⟩ := sound
  have frames : ∀ w ∈ frame :: rest, 4 ≤ w.length ∧ w.length ≤ 4096 := waits ▸ waiting
  refine ⟨rx, hold, ?_, fun w mem => frames w (List.mem_cons_of_mem _ mem), fun w e => ?_, inFrame, live, fun e => ?_⟩
  · have same : f.told.occupancy = (f.granting frame rest).told.occupancy := by
      simp [FrontLink.occupancy, FrontLink.told, FrontLink.granting, waits, free]; omega
    exact same ▸ room
  · obtain rfl : frame = w := Option.some.inj e
    exact frames _ List.mem_cons_self
  · rw [FrontLink.told] at e
    dsimp only at e
    split at e
    · cases e
    · next other => exact absurd e other

theorem Move.keeps_receivers (m : Move g s h t) (k : ReceiversWith g s) : ReceiversWith h t := by
  cases m with
  | line quiet l => exact (receiversWith_none quiet).2 (l.sound ((receiversWith_none quiet).1 k))
  | lock | start | stop | drained => rw [State.evalTiming_frame]; exact k
  | restart e =>
    rw [State.restarted_frame]
    exact (receiversWith_none rfl).2 (receiversSound_wiped ((receiversWith_none rfl).1 k) e)
  | opens => rw [State.openSlot_frame]; exact k
  | close => rw [State.closeSlot_frame]; exact k
  | freeSlot => rw [State.freeSlotAtGet_frame]; exact k
  | takeCells => rw [State.takeCells_frame]; exact k
  | returnCells => rw [State.returnCells_frame]; exact k
  | grant n frame rest _ quiet _ waits free =>
    exact k.setFront (FrontLink.granting_sound waits free) (fun m _ _ e => by cases quiet.symm.trans e) fun e => absurd rfl e
  | noticed n granted due =>
    obtain ⟨pending, -⟩ := due
    refine k.setFront (fun sound => ?_) (fun m other _ e => other (Option.some.inj (e.symm.trans granted))) fun _ e => by cases e
    rw [FrontLink.told, if_pos pending] at sound
    exact sound
  | unnoticed n granted undue =>
    obtain ⟨sound, waits⟩ := k
    refine ⟨sound, fun m _ pending => ?_⟩
    by_cases e : m = n
    · subst e
      intro empty
      have told := sound.1 m
      rw [Bank.get_map] at told
      obtain ⟨-, -, -, -, -, -, live, -⟩ := told
      refine undue ⟨pending, fun up => ?_, empty⟩
      have none := live up
      rw [FrontLink.told, if_pos pending] at none
      cases none
    · exact waits m (fun same => e (Option.some.inj (same.symm.trans granted))) pending
  | release n =>
    rw [State.dropHeld, State.evalFront_eq, State.setFront_front, Bank.get_set_self]
    obtain ⟨notice, waiting, -⟩ := s.decided_waiting { s.front.get n with held := none }
    have once : (s.setFront n { s.front.get n with held := none }).setFront n
          ((s.setFront n { s.front.get n with held := none }).decided { s.front.get n with held := none }) =
        s.setFront n (s.decided { s.front.get n with held := none }) := by
      simp [State.setFront]; rfl
    rw [once]
    refine k.setFront (fun sound => ?_) (fun _ _ quiet => quiet) fun quiet => ?_
    · rw [State.decided_told]
      exact s.decided_sound (FrontLink.released_sound sound)
    · rw [notice, waiting]
      exact k.2 n quiet
  | _ => exact k

/-- Settles O16, by what every move keeps of the receivers. -/
theorem stepKeepsReceiversSound : Obligations.StepKeepsReceiversSound := by
  intro s t
  exact step_keeps (fun _ _ k => k) (fun _ _ k => k)
    (fun u v steps k => (receiversWith_none rfl).1
      (steps.keeps (P := ReceiversWith) (fun m => m.keeps_receivers) ((receiversWith_none rfl).2 k)))
    fun _ _ => reset_receiversSound

/-! ### The flow states (R70, R88) -/

theorem timingDecision_idem (run : RunState) (g : General) (fill free : Nat) (f : Flow) :
    timingDecision run g fill free (timingDecision run g fill free f) = timingDecision run g fill free f := by
  unfold timingDecision
  split_ifs <;> rfl

/-- The flow state on the timing link is the one R70 gives. -/
def TimingSettled (s : State) : Prop := timingDecision s.runState s.general s.fill s.freeCount s.timingFlow = s.timingFlow

theorem State.evalTiming_settled (s : State) : TimingSettled s.evalTiming := by
  have flow := s.evalTiming_timingFlow
  rw [TimingSettled]
  rw [evalTiming_frame]
  dsimp only [freeCount]
  rw [flow]
  exact timingDecision_idem _ _ _ _ _

theorem TimingSettled.returnCells (k : TimingSettled s) (back : List Nat) : TimingSettled (s.returnCells back) := by
  rw [State.returnCells]
  split
  · exact k
  · exact State.evalTiming_settled _

theorem Move.keeps_timingSettled (m : Move g s h t) (run : RunControlSound s) (k : TimingSettled s) : TimingSettled t := by
  cases m with
  | line _ l => rw [l.frame]; exact k
  | setGeneral new _ tables =>
    obtain ⟨-, hold, -⟩ := run
    have stopped : s.runState ≠ .running := fun running => by rw [Spec.tablesOpen, running] at tables; exact tables.elim nofun nofun
    rw [TimingSettled]
    dsimp only [State.freeCount]
    rw [timingDecision_stopped stopped, hold stopped]
  | lock | start | stop | drained | restart | takeCells | freeSlot => exact State.evalTiming_settled _
  | opens t => exact State.evalTiming_settled _
  | returnCells back => exact k.returnCells back
  | close => rw [State.closeSlot_frame]; exact k
  | release => rw [State.dropHeld_frame]; exact k
  | _ => exact k

theorem FrontSettled.setFront (k : FrontSettled s) {n : LinkNo} {f : FrontLink} (settled : f.Settled) :
    FrontSettled (s.setFront n f) := by
  intro m
  rw [State.setFront_front, Bank.get_set]
  split
  · exact settled
  · exact k m

theorem Move.keeps_frontSettled (m : Move g s h t) (sound : ReceiversWith g s) (k : FrontSettled s) : FrontSettled t := by
  cases m with
  | line quiet l => exact l.settled ((receiversWith_none quiet).1 sound) k
  | lock | start | stop | drained => rw [State.evalTiming_frame]; exact k
  | restart e =>
    rw [State.restarted_frame]
    intro n
    have empty := (Receiver.quiet_warm (((receiversWith_none rfl).1 sound).1 n).1).1
    show ((s.front.map FrontLink.warm).get n).Settled
    rw [Bank.get_map, FrontLink.Settled, FrontLink.occupancy]
    simp [FrontLink.warm, empty, frontDecision, Config.fifoHoldLevel, Config.fifoGoLevel]
  | opens => rw [State.openSlot_frame]; exact k
  | close => rw [State.closeSlot_frame]; exact k
  | freeSlot => rw [State.freeSlotAtGet_frame]; exact k
  | takeCells => rw [State.takeCells_frame]; exact k
  | returnCells => rw [State.returnCells_frame]; exact k
  | grant n frame rest _ _ _ waits free =>
    have same : ((s.front.get n).granting frame rest).occupancy = (s.front.get n).occupancy := by
      simp [FrontLink.occupancy, FrontLink.granting, waits, free]; omega
    refine k.setFront ?_
    rw [FrontLink.Settled, same]
    exact k n
  | noticed n => exact k.setFront (k n)
  | release n =>
    rw [State.dropHeld, State.evalFront_eq]
    intro m
    rw [State.setFront_front, Bank.get_set]
    split
    · exact State.decided_settled _ _
    · next other =>
      rw [State.setFront_front, Bank.get_set_ne _ _ other]
      exact k m
  | _ => exact k

/-- Settles O17. A change of the general settings needs SETUP or READY, where the timing flow state is HOLD. -/
theorem stepKeepsFlowSettled : Obligations.StepKeepsFlowSettled := by
  intro s t run sound settled stepped
  refine (step_keeps (P := fun s => RunControlSound s ∧ ReceiversSound s ∧ FlowSettled s) (fun _ _ k => k) (fun _ _ k => k)
    (fun u v steps k => ?_) (fun _ _ => ?_) ⟨run, sound, settled⟩ stepped).2.2
  · obtain ⟨run, sound, timing, front⟩ := k
    obtain ⟨run, sound, timing, front⟩ := steps.keeps
      (P := fun g s => RunControlSound s ∧ ReceiversWith g s ∧ TimingSettled s ∧ FrontSettled s)
      (fun m k => by
        obtain ⟨run, sound, timing, front⟩ := k
        exact ⟨m.keeps_runControlSound run, m.keeps_receivers sound, m.keeps_timingSettled run timing,
          m.keeps_frontSettled sound front⟩)
      ⟨run, (receiversWith_none rfl).2 sound, timing, front⟩
    exact ⟨run, (receiversWith_none rfl).1 sound, timing, front⟩
  · exact ⟨by simp [RunControlSound, State.coldReset, State.reset], reset_receiversSound, rfl, reset_flowSettled.2⟩

end Sys2Proof.Machine
end

section
/-! THEOREMS. The pad map and the checks of Setup done (R98 to R105, R182; O54), and the run state machine (O55). -/

namespace Sys2Proof.Machine

open Sys2Proof.Safety

variable {s t : State} {g h : Transit}

/-! ### The first index that meets a test -/

theorem find_of_sorted {α : Type} [LinearOrder α] {p : α → Bool} {l : List α} (sorted : l.Pairwise (· < ·)) {a : α} :
    l.find? p = some a ↔ a ∈ l ∧ p a = true ∧ ∀ b ∈ l, b < a → p b = false := by
  induction l with
  | nil => simp
  | cons b rest ih =>
    obtain ⟨least, sorted⟩ := List.pairwise_cons.1 sorted
    rw [List.find?_cons]
    cases here : p b with
    | true =>
      simp only [Option.some.injEq, List.mem_cons]
      refine ⟨fun e => e ▸ ⟨.inl rfl, here, ?_⟩, fun ⟨mem, _, before⟩ => ?_⟩
      · rintro c (rfl | later) lt
        · exact absurd lt (lt_irrefl _)
        · exact absurd lt (lt_asymm (least c later))
      · rcases mem with rfl | later
        · rfl
        · rw [before b (.inl rfl) (least a later)] at here; cases here
    | false =>
      simp only [ih sorted, List.mem_cons]
      refine ⟨fun ⟨mem, meets, before⟩ => ⟨.inr mem, meets, ?_⟩,
        fun ⟨mem, meets, before⟩ => ⟨?_, meets, fun c later => before c (.inr later)⟩⟩
      · rintro c (rfl | later) lt
        · exact here
        · exact before c later lt
      · rcases mem with rfl | later
        · rw [meets] at here; cases here
        · exact later

theorem indices_sorted {n : Nat} : (indices n).Pairwise (· < ·) := by
  rw [indices, List.ofFn_id]
  exact (List.sortedLT_finRange n).pairwise

theorem find_indices {n : Nat} {p : Fin n → Bool} {i : Fin n} :
    (indices n).find? p = some i ↔ p i = true ∧ ∀ k < i, p k = false := by
  simp [find_of_sorted indices_sorted]

theorem find_indices_none {n : Nat} {p : Fin n → Bool} : (indices n).find? p = none ↔ ∀ i, p i = false := by simp

/-! ### The matching window (R98, R99) -/

theorem MapWindow.covers_iff {w : MapWindow} {n : LinkNo} {c : Nat} : w.covers n c = true ↔ Spec.covers w n c := by
  simp [covers, Spec.covers, and_assoc]

theorem matchingWindow_eq_some {n : LinkNo} {c : Nat} {i : SlotNo} :
    matchingWindow s.windows n c = some i ↔ Spec.effective s i n c := by
  rw [matchingWindow, find_indices, MapWindow.covers_iff]
  refine and_congr Iff.rfl (forall_congr' fun k => forall_congr' fun _ => ?_)
  rw [← MapWindow.covers_iff, Bool.not_eq_true]

theorem MapWindow.padOf_eq (w : MapWindow) (c : Nat) : w.padOf c = Spec.padIn w c := by
  rw [padOf, Spec.padIn]
  cases w.direction <;> rfl

theorem effective_unique {i k : SlotNo} {n : LinkNo} {c : Nat} (first : Spec.effective s i n c) (second : Spec.effective s k n c) :
    i = k :=
  Option.some.inj ((matchingWindow_eq_some.2 first).symm.trans (matchingWindow_eq_some.2 second))

/-! ### The checks of Setup done (R103 to R105, R182) -/

theorem overflowRow_eq_none {limit row sum : Nat} {l : List Nat} :
    overflowRow limit row sum l = none ↔ ∀ k < l.length, sum + (l.take (k + 1)).sum ≤ limit := by
  induction l generalizing row sum with
  | nil => simp [overflowRow]
  | cons n rest ih =>
    rw [overflowRow]
    split
    · next above =>
      refine ⟨nofun, fun all => ?_⟩
      have := all 0 (by simp)
      simp at this; omega
    · next within =>
      rw [ih]
      refine ⟨fun all k small => ?_, fun all k small => ?_⟩
      · cases k with
        | zero => simp; omega
        | succ k =>
          have := all k (by simpa using small)
          simp only [List.take_succ_cons, List.sum_cons]; omega
      · have := all (k + 1) (by simpa using small)
        simp only [List.take_succ_cons, List.sum_cons] at this ⊢; omega

theorem overflowRow_eq_some {limit row sum r : Nat} {l : List Nat} (within : sum ≤ limit) :
    overflowRow limit row sum l = some r ↔
      ∃ k < l.length, r = row + k ∧ limit < sum + (l.take (k + 1)).sum ∧ ∀ j < k, sum + (l.take (j + 1)).sum ≤ limit := by
  induction l generalizing row sum with
  | nil => simp [overflowRow]
  | cons n rest ih =>
    rw [overflowRow]
    split
    · next above =>
      refine ⟨fun e => ⟨0, by simp, (Option.some.inj e).symm, by simpa using above, by simp⟩, ?_⟩
      rintro ⟨k, -, rfl, -, before⟩
      cases k with
      | zero => rfl
      | succ k =>
        have := before 0 (by simp)
        simp at this; omega
    · next below =>
      rw [ih (by omega)]
      constructor
      · rintro ⟨k, small, rfl, here, before⟩
        refine ⟨k + 1, by simpa using small, by omega, ?_, fun j earlier => ?_⟩
        · simp only [List.take_succ_cons, List.sum_cons]; omega
        · cases j with
          | zero => simp; omega
          | succ j =>
            have := before j (by omega)
            simp only [List.take_succ_cons, List.sum_cons]; omega
      · rintro ⟨k, small, rfl, here, before⟩
        cases k with
        | zero => simp at here; omega
        | succ k =>
          refine ⟨k, by simpa using small, by omega, ?_, fun j earlier => ?_⟩
          · simp only [List.take_succ_cons, List.sum_cons] at here; omega
          · have := before (j + 1) (by omega)
            simp only [List.take_succ_cons, List.sum_cons] at this; omega

theorem Bank.length_list {α : Type} {n : Nat} (b : Bank α n) : b.list.length = n := by
  rw [Bank.list_eq]; simp [indices]

/-- The check of the row table (R103). -/
theorem overflowRow_rows_none : overflowRow Config.padCount 0 0 s.rows.list = none ↔ ∀ r : RowNo, Spec.padsUpTo s r.val ≤ 3072 := by
  rw [overflowRow_eq_none, Bank.length_list]
  simp only [Nat.zero_add]
  exact ⟨fun all r => all r.val r.isLt, fun all k small => all ⟨k, small⟩⟩

theorem overflowRow_rows_some {r : Nat} :
    overflowRow Config.padCount 0 0 s.rows.list = some r ↔
      ∃ q : RowNo, r = q.val ∧ 3072 < Spec.padsUpTo s q.val ∧ ∀ p < q, Spec.padsUpTo s p.val ≤ 3072 := by
  rw [overflowRow_eq_some (Nat.zero_le _), Bank.length_list]
  simp only [Nat.zero_add]
  constructor
  · rintro ⟨k, small, same, here, before⟩
    exact ⟨⟨k, small⟩, same, here, fun p earlier => before p.val earlier⟩
  · rintro ⟨q, rfl, here, before⟩
    exact ⟨q.val, q.isLt, rfl, here, fun j earlier => before ⟨j, earlier.trans q.isLt⟩ earlier⟩

theorem rows_sum_le : s.rows.list.sum ≤ 3072 ↔ ∀ r : RowNo, Spec.padsUpTo s r.val ≤ 3072 := by
  have whole : s.rows.list.take 48 = s.rows.list := List.take_of_length_le (Bank.length_list _).le
  refine ⟨fun total r => le_trans ?_ total, fun all => ?_⟩
  · exact (List.take_sublist _ _).sum_le_sum fun _ _ => Nat.zero_le _
  · have last := all 47
    rw [Spec.padsUpTo, show ((47 : RowNo).val + 1) = 48 from rfl, whole] at last
    exact last

/-- The check of one map window (R104). -/
theorem MapWindow.fits_iff {w : MapWindow} : w.fits (s.rows.get w.row) = true ↔ Spec.windowWithin s w := by
  rw [fits, Spec.windowWithin]
  cases direction : w.direction <;> simp [and_assoc]

theorem badWindow_test (i : SlotNo) :
    ((s.windows.get i).valid && !(s.windows.get i).fits (s.rows.get (s.windows.get i).row)) = false ↔
    ((s.windows.get i).valid = true → Spec.windowWithin s (s.windows.get i)) := by
  rw [← MapWindow.fits_iff]
  cases (s.windows.get i).valid <;> simp

theorem badWindow_none : badWindow s.windows s.rows = none ↔ ∀ w,
    (s.windows.get w).valid = true → Spec.windowWithin s (s.windows.get w) := by
  rw [badWindow, find_indices_none]
  exact forall_congr' badWindow_test

theorem badWindow_some {w : SlotNo} :
    badWindow s.windows s.rows = some w ↔
      ¬ ((s.windows.get w).valid = true → Spec.windowWithin s (s.windows.get w))
        ∧ ∀ v < w, (s.windows.get v).valid = true → Spec.windowWithin s (s.windows.get v) := by
  rw [badWindow, find_indices, ← badWindow_test, Bool.not_eq_false]
  exact and_congr Iff.rfl (forall_congr' fun v => forall_congr' fun _ => badWindow_test v)

/-- The pads of a window's effective pairs (R105). -/
theorem mem_effectivePads {i : SlotNo} {row pad : Nat} :
    (row, pad) ∈ effectivePads s.windows i ↔ ∃ n c, Spec.targets s i n c row pad := by
  rw [effectivePads]
  simp only [List.mem_filterMap, List.mem_map, List.mem_range]
  constructor
  · rintro ⟨c, -, found⟩
    split at found
    · next matching =>
      cases found
      exact ⟨_, c, matchingWindow_eq_some.1 matching, rfl, (MapWindow.padOf_eq _ _).symm⟩
    · cases found
  · rintro ⟨n, c, target, rfl, rfl⟩
    obtain ⟨⟨valid, link, low, high⟩, before⟩ := target
    refine ⟨c, ⟨c - (s.windows.get i).firstChannel, by omega, by omega⟩, ?_⟩
    rw [link, if_pos (matchingWindow_eq_some.2 ⟨⟨valid, link, low, high⟩, before⟩), MapWindow.padOf_eq]

/-- A window of a list has a pad that is taken, or that a lower window of the list has. -/
def clashes (windows : Bank MapWindow 64) (taken : List (Nat × Nat)) (l : List SlotNo) (i : SlotNo) : Bool :=
  (effectivePads windows i).any fun p => taken.contains p || l.any fun k => decide (k < i) && (effectivePads windows k).contains p

theorem sharedPad_eq_find {windows : Bank MapWindow 64} {taken : List (Nat × Nat)} {l : List SlotNo} (sorted : l.Pairwise (· < ·)) :
    sharedPad windows taken l = l.find? (clashes windows taken l) := by
  induction l generalizing taken with
  | nil => rfl
  | cons a rest ih =>
    obtain ⟨least, sorted⟩ := List.pairwise_cons.1 sorted
    have none (p : Nat × Nat) : (a :: rest).any (fun k => decide (k < a) && (effectivePads windows k).contains p) = false := by
      rw [List.any_eq_false]
      intro k mem
      rcases List.mem_cons.1 mem with rfl | later
      · simp
      · simp [lt_asymm (least k later)]
    have here : clashes windows taken (a :: rest) a = (effectivePads windows a).any fun p => taken.contains p := by
      simp only [clashes, none, Bool.or_false]
    have later : ∀ b ∈ rest, clashes windows (taken ++ effectivePads windows a) rest b = clashes windows taken (a :: rest) b := by
      intro b mem
      simp only [clashes, List.any_cons, decide_eq_true (least b mem), Bool.true_and]
      congr 1
      funext p
      simp only [List.contains_eq_mem, List.mem_append, Bool.decide_or, Bool.or_assoc]
    rw [sharedPad, List.find?_cons, here]
    cases (effectivePads windows a).any fun p => taken.contains p with
    | true => rfl
    | false => exact (ih sorted).trans (List.find?_congr later)

theorem clashes_iff {i : SlotNo} : clashes s.windows [] (indices 64) i = true ↔ Spec.shares s i := by
  simp only [clashes, List.any_eq_true, Bool.or_eq_true, Bool.and_eq_true, decide_eq_true_eq, List.contains_eq_mem,
    List.not_mem_nil, decide_false, Bool.false_eq_true, false_or, mem_indices, true_and, Spec.shares]
  constructor
  · rintro ⟨⟨row, pad⟩, mine, k, lower, theirs⟩
    obtain ⟨m, c, here⟩ := mem_effectivePads.1 mine
    obtain ⟨n, d, there⟩ := mem_effectivePads.1 theirs
    exact ⟨k, lower, m, n, c, d, row, pad, here, there⟩
  · rintro ⟨k, lower, m, n, c, d, row, pad, here, there⟩
    exact ⟨(row, pad), mem_effectivePads.2 ⟨m, c, here⟩, k, lower, mem_effectivePads.2 ⟨n, d, there⟩⟩

/-- The check of shared pads (R105). -/
theorem sharedPad_none : sharedPad s.windows [] (indices 64) = none ↔ ∀ w, ¬ Spec.shares s w := by
  rw [sharedPad_eq_find indices_sorted, find_indices_none]
  exact forall_congr' fun w => by rw [← clashes_iff, Bool.not_eq_true]

theorem sharedPad_some {w : SlotNo} : sharedPad s.windows [] (indices 64) = some w ↔ Spec.shares s w ∧ ∀ v < w,
    ¬ Spec.shares s v := by
  rw [sharedPad_eq_find indices_sorted, find_indices, clashes_iff]
  exact and_congr Iff.rfl (forall_congr' fun v => forall_congr' fun _ => by rw [← clashes_iff, Bool.not_eq_true])

/-- A window within its ranges sends no two of its channels to one pad (R104). -/
theorem padIn_injective {w : MapWindow} (within : Spec.windowWithin s w) {n m : LinkNo} {c d : Nat} (first : Spec.covers w n c)
    (second : Spec.covers w m d) (same : Spec.padIn w c = Spec.padIn w d) : n = m ∧ c = d := by
  obtain ⟨-, link, low, high⟩ := first
  obtain ⟨-, link', low', high'⟩ := second
  obtain ⟨-, -, -, descending⟩ := within
  refine ⟨link.symm.trans link', ?_⟩
  rw [Spec.padIn, Spec.padIn] at same
  cases direction : w.direction with
  | ascending => rw [direction, if_pos rfl, if_pos rfl] at same; omega
  | descending =>
    have := descending direction
    rw [direction, if_neg (by decide), if_neg (by decide)] at same
    omega

/-- With every window within its ranges, no pad is shared by two windows exactly when no pad has two pairs (R105). -/
theorem mappingInjective_iff (within : ∀ w, (s.windows.get w).valid = true → Spec.windowWithin s (s.windows.get w)) :
    Spec.mappingInjective s ↔ ∀ w, ¬ Spec.shares s w := by
  refine ⟨fun injective w => ?_, fun apart i k m n c d row pad here there => ?_⟩
  · rintro ⟨k, lower, m, n, c, d, row, pad, here, there⟩
    obtain ⟨rfl, rfl⟩ := injective w k m n c d row pad here there
    exact absurd (effective_unique here.1 there.1) (ne_of_gt lower)
  · rcases lt_trichotomy i k with lower | rfl | lower
    · exact absurd ⟨i, lower, n, m, d, c, row, pad, there, here⟩ (apart k)
    · obtain ⟨⟨covers, -⟩, -, padHere⟩ := here
      obtain ⟨⟨covers', -⟩, -, padThere⟩ := there
      exact padIn_injective (within i covers.1) covers covers' (padHere.trans padThere.symm)
    · exact absurd ⟨k, lower, m, n, c, d, row, pad, here, there⟩ (apart i)

/-- The check of the classes (R182). -/
theorem classes_all_disabled : s.classes.any (fun c => c.kind != .disabled) = false ↔ ∀ k, (s.classes.get k).kind = .disabled := by
  rw [← Bool.not_eq_true, Bank.any_iff]
  simp

theorem emptyClass_iff (k : ClassNo) : ((s.classes.get k).kind != .disabled && (s.classes.get k).expected == 0) = true ↔
    ((s.classes.get k).kind ≠ .disabled ∧ (s.classes.get k).expected = 0) := by simp

theorem emptyClass_false_iff (k : ClassNo) : ((s.classes.get k).kind != .disabled && (s.classes.get k).expected == 0) = false ↔
    ¬ ((s.classes.get k).kind ≠ .disabled ∧ (s.classes.get k).expected = 0) := by
  rw [← emptyClass_iff, Bool.not_eq_true]

/-- The first check that fails, and the entry it names (R182). -/
theorem setupFailure_eq_some {space index : Nat} : setupFailure s = some (space, index) ↔ Spec.setupFails s space index := by
  rw [setupFailure, Spec.setupFails]
  dsimp only
  cases rows : overflowRow Config.padCount 0 0 s.rows.list with
  | some r =>
    obtain ⟨q, rfl, above, before⟩ := overflowRow_rows_some.1 rows
    constructor
    · rintro ⟨⟩
      exact .inl ⟨q, rfl, rfl, above, before⟩
    · rintro (⟨p, rfl, rfl, here, earlier⟩ | ⟨all, -⟩)
      · have same : overflowRow Config.padCount 0 0 s.rows.list = some p.val := overflowRow_rows_some.2 ⟨p, rfl, here, earlier⟩
        rw [← rows, same]
      · exact absurd (all q) (by omega)
  | none =>
    have within := overflowRow_rows_none.1 rows
    rw [or_iff_right (fun ⟨r, _, _, above, _⟩ => absurd (within r) (by omega)), and_iff_right within]
    dsimp only
    cases bad : badWindow s.windows s.rows with
    | some w =>
      have first := badWindow_some.1 bad
      constructor
      · rintro ⟨⟩
        exact .inl ⟨w, rfl, rfl, first⟩
      · rintro (⟨v, rfl, rfl, other⟩ | ⟨all, -⟩)
        · have same := badWindow_some.2 other
          rw [bad] at same
          rw [Option.some.inj same]
        · exact absurd (all w) first.1
    | none =>
      have fit := badWindow_none.1 bad
      rw [or_iff_right (fun ⟨w, _, _, unfit, _⟩ => unfit (fit w)), and_iff_right fit]
      dsimp only
      cases shared : sharedPad s.windows [] (indices 64) with
      | some w =>
        have first := sharedPad_some.1 shared
        constructor
        · rintro ⟨⟩
          exact .inl ⟨w, rfl, rfl, first⟩
        · rintro (⟨v, rfl, rfl, other⟩ | ⟨all, -⟩)
          · have same := sharedPad_some.2 other
            rw [shared] at same
            rw [Option.some.inj same]
          · exact absurd first.1 (all w)
      | none =>
        have apart := sharedPad_none.1 shared
        rw [or_iff_right (fun ⟨w, _, _, shares, _⟩ => apart w shares), and_iff_right apart]
        dsimp only
        cases enabled : s.classes.any (fun c => c.kind != .disabled) with
        | false =>
          have disabled := classes_all_disabled.1 enabled
          rw [if_neg (by decide), or_iff_left (fun ⟨k, _, _, ⟨on, _⟩, _⟩ => on (disabled k))]
          constructor
          · rintro ⟨⟩
            exact ⟨rfl, rfl, disabled⟩
          · rintro ⟨rfl, rfl, -⟩
            rfl
        | true =>
          have some : ¬ ∀ k, (s.classes.get k).kind = .disabled := fun all => by
            rw [classes_all_disabled.2 all] at enabled; cases enabled
          rw [if_pos rfl, or_iff_right (fun ⟨_, _, all⟩ => some all), Option.map_eq_some_iff]
          constructor
          · rintro ⟨k, found, ⟨⟩⟩
            obtain ⟨here, before⟩ := find_indices.1 found
            exact ⟨k, rfl, rfl, (emptyClass_iff k).1 here, fun c lower => (emptyClass_false_iff c).1 (before c lower)⟩
          · rintro ⟨k, rfl, rfl, here, before⟩
            exact ⟨k, find_indices.2 ⟨(emptyClass_iff k).2 here, fun c lower => (emptyClass_false_iff c).2 (before c lower)⟩, rfl⟩

/-- The five checks pass exactly when none fails (R182). -/
theorem setupFailure_eq_none : setupFailure s = none ↔ Spec.setupPasses s := by
  rw [Spec.setupPasses, setupFailure, rows_sum_le]
  cases rows : overflowRow Config.padCount 0 0 s.rows.list with
  | some r =>
    refine ⟨nofun, fun ⟨within, _⟩ => ?_⟩
    rw [overflowRow_rows_none.2 within] at rows; cases rows
  | none =>
    rw [and_iff_right (overflowRow_rows_none.1 rows)]
    dsimp only
    cases bad : badWindow s.windows s.rows with
    | some w =>
      refine ⟨nofun, fun ⟨fit, _⟩ => ?_⟩
      rw [badWindow_none.2 fit] at bad; cases bad
    | none =>
      have fit := badWindow_none.1 bad
      rw [and_iff_right fit, mappingInjective_iff fit]
      dsimp only
      cases shared : sharedPad s.windows [] (indices 64) with
      | some w =>
        refine ⟨nofun, fun ⟨apart, _⟩ => ?_⟩
        rw [sharedPad_none.2 apart] at shared; cases shared
      | none =>
        rw [and_iff_right (sharedPad_none.1 shared)]
        dsimp only
        cases enabled : s.classes.any (fun c => c.kind != .disabled) with
        | false =>
          have disabled := classes_all_disabled.1 enabled
          rw [if_neg (by decide)]
          exact ⟨nofun, fun ⟨⟨k, on⟩, _⟩ => absurd (disabled k) on⟩
        | true =>
          obtain ⟨k, on⟩ := (Bank.any_iff _ _).1 enabled
          rw [if_pos rfl, Option.map_eq_none_iff, find_indices_none, and_iff_right ⟨k, by simpa using on⟩]
          exact forall_congr' fun c => by rw [emptyClass_false_iff, not_and]

theorem setupPasses_or_fails (s : State) : ¬ Spec.setupPasses s ↔ ∃ space index, Spec.setupFails s space index := by
  rw [← setupFailure_eq_none, ← ne_eq, Option.ne_none_iff_exists']
  exact ⟨fun ⟨⟨space, index⟩, failed⟩ => ⟨space, index, setupFailure_eq_some.1 failed⟩,
    fun ⟨space, index, fails⟩ => ⟨(space, index), setupFailure_eq_some.2 fails⟩⟩

/-! ### The setup lock (R105, R106) -/

/-- A state with the map fixed as another has it. -/
def SameMap (s t : State) : Prop := t.windows = s.windows ∧ t.rows = s.rows ∧ t.general.segment = s.general.segment

theorem mappingInjective_congr (same : SameMap s t) (k : Spec.mappingInjective s) : Spec.mappingInjective t := by
  obtain ⟨windows, -, -⟩ := same
  rw [Spec.mappingInjective] at k ⊢
  simp only [Spec.targets, Spec.effective, windows]
  exact k

/-- A move under the lock changes nothing of the map, and keeps the lock. -/
theorem Move.keeps_map (m : Move g s h t) (run : RunControlSound s) (locked : s.locked = true) : t.locked = true ∧ SameMap s t := by
  obtain ⟨lock, -⟩ := run
  have unsettled : s.runState ≠ .setup := lock.1 locked
  cases m with
  | line _ l => rw [l.frame]; exact ⟨locked, rfl, rfl, rfl⟩
  | setGeneral new _ _ same => exact ⟨locked, rfl, rfl, same locked⟩
  | setWindow i w _ inSetup => exact absurd inSetup unsettled
  | setRow r k _ inSetup => exact absurd inSetup unsettled
  | lock inSetup => exact absurd inSetup unsettled
  | start | stop | drained => rw [State.evalTiming_frame]; exact ⟨locked, rfl, rfl, rfl⟩
  | restart => rw [State.restarted_frame]; exact ⟨locked, rfl, rfl, rfl⟩
  | opens => rw [State.openSlot_frame]; exact ⟨locked, rfl, rfl, rfl⟩
  | close => rw [State.closeSlot_frame]; exact ⟨locked, rfl, rfl, rfl⟩
  | freeSlot => rw [State.freeSlotAtGet_frame]; exact ⟨locked, rfl, rfl, rfl⟩
  | takeCells => rw [State.takeCells_frame]; exact ⟨locked, rfl, rfl, rfl⟩
  | returnCells => rw [State.returnCells_frame]; exact ⟨locked, rfl, rfl, rfl⟩
  | release => rw [State.dropHeld_frame]; exact ⟨locked, rfl, rfl, rfl⟩
  | _ => exact ⟨locked, rfl, rfl, rfl⟩

/-- The lock is taken by a Setup done whose checks pass, and by nothing else. -/
theorem Move.takes_lock (m : Move g s h t) (locked : t.locked = true) : s.locked = true ∨ Spec.mappingInjective t := by
  cases m with
  | line _ l => rw [l.frame] at locked; exact .inl locked
  | lock inSetup passed =>
    obtain ⟨-, -, injective, -⟩ := setupFailure_eq_none.1 passed
    refine .inr ?_
    rw [State.evalTiming_frame]
    exact injective
  | start | stop | drained => rw [State.evalTiming_frame] at locked; exact .inl locked
  | restart => rw [State.restarted_frame] at locked; exact .inl locked
  | opens => rw [State.openSlot_frame] at locked; exact .inl locked
  | close => rw [State.closeSlot_frame] at locked; exact .inl locked
  | freeSlot => rw [State.freeSlotAtGet_frame] at locked; exact .inl locked
  | takeCells => rw [State.takeCells_frame] at locked; exact .inl locked
  | returnCells => rw [State.returnCells_frame] at locked; exact .inl locked
  | release => rw [State.dropHeld_frame] at locked; exact .inl locked
  | _ => exact .inl locked

/-- What a step that is no cold reset does: moves, and perhaps a reply. -/
theorem step_steps (running : s.pending.head? ≠ some .coldReset) (stepped : step s = .next t) :
    ∃ p u r, Steps { s with pending := p } u ∧ t = { u with replies := r } := by
  rw [step] at stepped
  split at stepped
  · obtain rfl := Host.Outcome.next.inj stepped
    have moved := s.tick_steps
    generalize s.tick = u at moved ⊢
    exact ⟨s.pending, u, u.replies, moved, rfl⟩
  · next c rest queue =>
    have other : c ≠ .coldReset := fun e => running (by rw [queue, e]; rfl)
    obtain ⟨u, executed, v, steps, result⟩ := exec_event { s with pending := rest } other
    cases executed.symm.trans stepped
    obtain rfl | ⟨-, r, rfl⟩ := result
    · exact ⟨rest, _, t.replies, steps, rfl⟩
    · exact ⟨rest, _, _, steps, rfl⟩

/-- Settles O54, by what every move does to the lock and the map. -/
theorem setupLockFixesTheMapping : Obligations.SetupLockFixesTheMapping := by
  intro s t run stepped
  refine ⟨fun locked running => ?_, fun injective locked => ?_⟩
  · obtain ⟨p, u, r, steps, rfl⟩ := step_steps running stepped
    obtain ⟨-, kept⟩ := steps.keeps (P := fun _ u => RunControlSound u ∧ u.locked = true ∧ SameMap s u)
      (fun m k => by
        obtain ⟨run, locked, windows, rows, segment⟩ := k
        obtain ⟨locked', windows', rows', segment'⟩ := m.keeps_map run locked
        exact ⟨m.keeps_runControlSound run, locked', windows'.trans windows, rows'.trans rows, segment'.trans segment⟩)
      ⟨run, locked, rfl, rfl, rfl⟩
    exact kept
  · refine step_keeps (P := fun s => RunControlSound s ∧ (s.locked = true → Spec.mappingInjective s)) (fun _ _ k => k)
      (fun _ _ k => k)
      (fun u v steps k => ?_) (fun _ _ => ⟨?_, fun e => Bool.noConfusion (show false = true from e)⟩) ⟨run, injective⟩ stepped |>.2
        locked
    · exact steps.keeps (P := fun _ s => RunControlSound s ∧ (s.locked = true → Spec.mappingInjective s))
        (fun m k => by
          obtain ⟨run, injective⟩ := k
          refine ⟨m.keeps_runControlSound run, fun after => ?_⟩
          exact (m.takes_lock after).elim (fun before => mappingInjective_congr (m.keeps_map run before).2 (injective before)) id) k
    · exact ⟨by simp [State.coldReset, State.reset], fun _ => rfl, rfl, fun e => absurd rfl e⟩

/-! ### The run state machine (R181 to R184) -/

section

variable {number : BitVec 8} {argument : Word} {rest : List (List Word)}

theorem State.evalTiming_go {u : State} (running : u.runState = .running) (empty : u.fill = 0) (free : u.freeQueue.length = 8192)
    (settings : GeneralInRange u.general) : u.evalTiming.timingFlow = .go := by
  obtain ⟨-, -, -, -, -, hold, -, -, cells, resume, -⟩ := settings
  rw [evalTiming_timingFlow, timingDecision, if_neg (by simp [running]), if_neg, if_pos]
  · rw [freeCount, free, empty]; exact ⟨Nat.zero_le _, resume⟩
  · rw [freeCount, free, empty]; omega

theorem State.drained_iff {u : State} :
    u.drained = true ↔ u.fill = 0 ∧ u.job = none ∧ u.adoption = [] ∧ u.emitter.frame = .none := by
  simp [drained, and_assoc]

/-- Every orphan entry leaves as stray (R53). -/
theorem State.dropOrphans_all (u : State) :
    u.dropOrphans (fun _ => true) =
      Spec.cellsBack (u.orphans.foldl (fun (v : State) (o : Orphan) => Spec.stray v o.link) { u with orphans := [] })
        (u.orphans.flatMap Orphan.cells) := by
  rw [dropOrphans, returnCells_eq]
  simp only [List.filter_true, Bool.not_true, List.filter_false]
  rfl

theorem State.completeDrain_eq (u : State) :
    u.completeDrain =
      { Spec.cellsBack (u.orphans.foldl (fun (v : State) (o : Orphan) => Spec.stray v o.link) { u with orphans := [] })
          (u.orphans.flatMap Orphan.cells) with runState := .ready }.evalTiming := by
  rw [completeDrain, dropOrphans_all]

theorem State.testDrain_of_not {u : State} (not : u.runState ≠ .draining ∨ ¬ u.drained = true) : u.testDrain = u :=
  if_neg fun both => not.elim (fun no => no both.1) fun no => no both.2

theorem setupDone_moves (h : Spec.takes s (Spec.command number 1 argument) rest) :
    (s.runState ≠ .setup → exec .setupDone s = .next
      (Spec.replied (Spec.taken s rest) (Spec.command number 1 argument) .badState []))
      ∧ (s.runState = .setup → Spec.setupPasses s →
        exec .setupDone s =
          .next (Spec.replied { Spec.taken s rest with runState := .ready, locked := true }.evalTiming
            (Spec.command number 1 argument)
            .done []))
      ∧ ∀ space index, s.runState = .setup → Spec.setupFails s space index →
        exec .setupDone s =
          .next (Spec.replied (Spec.taken s rest) (Spec.command number 1 argument) .badSetup
            [BitVec.ofNat 16 space, BitVec.ofNat 16 index]) := by
  have executed : exec .setupDone s = .next (s.take (.command .setupDone) State.runSetupDone) := rfl
  rw [executed, State.take_command h rfl rfl]
  have checks : setupFailure (Spec.taken s rest) = setupFailure s := rfl
  refine ⟨fun other => ?_, fun inSetup passes => ?_, fun space index inSetup fails => ?_⟩
  · rw [State.runSetupDone, if_pos (show (Spec.taken s rest).runState ≠ .setup from other)]
    rfl
  · rw [State.runSetupDone, if_neg (show ¬ (Spec.taken s rest).runState ≠ .setup from fun no => no inSetup), checks,
      setupFailure_eq_none.2 passes]
    dsimp only [State.accept]
  · rw [State.runSetupDone, if_neg (show ¬ (Spec.taken s rest).runState ≠ .setup from fun no => no inSetup), checks,
      setupFailure_eq_some.2 fails]
    rfl

theorem start_moves (h : Spec.takes s (Spec.command number 2 argument) rest) :
    let begun := { Spec.taken s rest with runState := .running, newestTag := none, pendingSkipped := 0 }.evalTiming
    (s.runState ≠ .ready → exec .start s = .next (Spec.replied (Spec.taken s rest) (Spec.command number 2 argument) .badState []))
      ∧ (s.runState = .ready → exec .start s = .next (Spec.replied begun (Spec.command number 2 argument) .done [])) := by
  have executed : exec .start s = .next (s.take (.command .start) State.runStart) := rfl
  rw [executed, State.take_command h rfl rfl]
  refine ⟨fun other => ?_, fun ready => ?_⟩
  · rw [State.runStart, if_pos (show (Spec.taken s rest).runState ≠ .ready from other)]
    rfl
  · rw [State.runStart, if_neg (show ¬ (Spec.taken s rest).runState ≠ .ready from fun no => no ready)]
    dsimp only [State.accept]

theorem stop_moves (h : Spec.takes s (Spec.command number 3 argument) rest) :
    let stopped := { Spec.taken s rest with runState := .draining }.evalTiming
    (s.runState ≠ .running → exec .stop s = .next (Spec.replied (Spec.taken s rest) (Spec.command number 3 argument) .badState []))
      ∧ (s.runState = .running → ¬ s.drained = true →
        exec .stop s = .next (Spec.replied stopped (Spec.command number 3 argument) .done []))
      ∧ (s.runState = .running → s.drained = true →
        exec .stop s = .next (Spec.replied stopped.completeDrain (Spec.command number 3 argument) .done [])) := by
  have executed : exec .stop s = .next (s.take (.command .stop) State.runStop) := rfl
  rw [executed, State.take_command h rfl rfl]
  have parts : { Spec.taken s rest with runState := .draining }.evalTiming.drained = s.drained := by
    rw [State.evalTiming_frame]; rfl
  have draining : { Spec.taken s rest with runState := .draining }.evalTiming.runState = .draining := by rw [State.evalTiming_frame]
  refine ⟨fun other => ?_, fun running busy => ?_, fun running idle => ?_⟩
  · rw [State.runStop, if_pos (show (Spec.taken s rest).runState ≠ .running from other)]
    rfl
  · rw [State.runStop, if_neg (show ¬ (Spec.taken s rest).runState ≠ .running from fun no => no running),
      State.testDrain_of_not (.inr (parts ▸ busy))]
    dsimp only [State.accept]
  · rw [State.runStop, if_neg (show ¬ (Spec.taken s rest).runState ≠ .running from fun no => no running), State.testDrain,
      if_pos ⟨draining, parts.trans idle⟩]
    dsimp only [State.accept]

end

/-- Settles O55. -/
theorem runStateMoves : Obligations.RunStateMoves := by
  refine ⟨fun s number argument rest => ?_, setupPasses_or_fails⟩
  have completion : exec .drainCompletion s = .next s.testDrain := rfl
  refine ⟨setupDone_moves, fun takes => ?_, fun takes => ?_, fun draining drained => ?_, fun not => ?_⟩
  · obtain ⟨refused, begun⟩ := start_moves takes
    refine ⟨refused, begun, fun ready empty free settings => ⟨_, begun ready, ?_⟩⟩
    exact State.evalTiming_go rfl empty free settings
  · obtain ⟨refused, stopped, ended⟩ := stop_moves takes
    refine ⟨refused, fun running busy => stopped running fun idle => busy (State.drained_iff.1 idle), fun running idle => ?_⟩
    rw [ended running (State.drained_iff.2 idle), State.completeDrain_eq]
  · rw [completion, State.testDrain, if_pos ⟨draining, State.drained_iff.2 drained⟩, State.completeDrain_eq]
  · rw [completion, State.testDrain_of_not (not.imp_right fun busy idle => busy (State.drained_iff.1 idle))]

end Sys2Proof.Machine
end

section
/-! THEOREMS. The end of a microsecond (O2, R29). -/

namespace Sys2Proof.Machine

open Sys2Proof.Safety

variable {s t : State} {l : Lane}

/-! ### What the expiries leave unchanged -/

theorem State.firstExpiry_frame (s : State) (i : SlotNo) :
    s.firstExpiry i =
      { s with
        slots := (s.firstExpiry i).slots, deadlines := (s.firstExpiry i).deadlines, counters := (s.firstExpiry i).counters } := by
  rw [firstExpiry]
  split
  · split
    · rfl
    · rw [closeSlot_frame]
  · rfl

theorem State.secondExpiry_frame (s : State) (i : SlotNo) :
    s.secondExpiry i =
      { s with
        slots := (s.secondExpiry i).slots, deadlines := (s.secondExpiry i).deadlines, counters := (s.secondExpiry i).counters } :=
          by
  rw [secondExpiry]
  split
  · rw [closeSlot_frame]
  · rfl

/-- Both expiries of a slot, one after the other. -/
def State.expire (s : State) (i : SlotNo) : State := (s.firstExpiry i).secondExpiry i

theorem State.expire_frame (s : State) (i : SlotNo) :
    s.expire i = { s with slots := (s.expire i).slots, deadlines := (s.expire i).deadlines, counters := (s.expire i).counters } :=
      by
  rw [expire, secondExpiry_frame, firstExpiry_frame]

theorem State.takeDeadlines_eq (s : State) : s.takeDeadlines = (indices 64).foldl State.expire s := rfl

/-- A fold of operations that change some fields only changes those fields only. -/
theorem State.foldl_within {α : Type} {R : State → State → Prop} (refl : ∀ s, R s s) (trans : ∀ s t u, R s t → R t u → R s u)
    {f : State → α → State} (one : ∀ s a, R s (f s a)) (l : List α) (s : State) : R s (l.foldl f s) := by
  induction l generalizing s with
  | nil => exact refl s
  | cons a rest ih => exact trans _ _ _ (one s a) (ih _)

theorem State.expires_frame (l : List SlotNo) (s : State) :
    l.foldl State.expire s =
      { s with
        slots := (l.foldl State.expire s).slots, deadlines := (l.foldl State.expire s).deadlines
        counters := (l.foldl State.expire s).counters } :=
  State.foldl_within (R := fun s t => t = { s with slots := t.slots, deadlines := t.deadlines, counters := t.counters })
    (fun _ => rfl)
    (fun _ _ _ first second => by rw [second, first]) State.expire_frame l s

theorem State.orphanExpiry_frame (s : State) :
    s.orphanExpiry =
      { s with
        orphans := s.orphanExpiry.orphans, counters := s.orphanExpiry.counters, errors := s.orphanExpiry.errors
        freeQueue := s.orphanExpiry.freeQueue, timingFlow := s.orphanExpiry.timingFlow, timingDue := s.orphanExpiry.timingDue } :=
          by
  rw [orphanExpiry]
  split
  · rfl
  · rw [returnCells_frame]; rfl

theorem State.takeOrphans_frame (n : Nat) (s : State) :
    State.takeOrphans n s =
      { s with
        orphans := (State.takeOrphans n s).orphans, counters := (State.takeOrphans n s).counters
        errors := (State.takeOrphans n s).errors, freeQueue := (State.takeOrphans n s).freeQueue
        timingFlow := (State.takeOrphans n s).timingFlow, timingDue := (State.takeOrphans n s).timingDue } := by
  induction n generalizing s with
  | zero => rfl
  | succ n ih => rw [takeOrphans, ih, orphanExpiry_frame]

theorem State.stallOut_frame (s : State) (l : Lane) :
    s.stallOut l =
      { s with
        front := (s.stallOut l).front, timing := (s.stallOut l).timing, uplink := (s.stallOut l).uplink
        counters := (s.stallOut l).counters, errors := (s.stallOut l).errors } := by
  rw [stallOut]
  split
  · have kept := s.leaveFrame_frame l .discarding
    generalize s.leaveFrame l .discarding = u at kept ⊢
    rw [kept]
    cases l <;> rfl
  · rfl

/-- Every lane on which a frame may be in progress. -/
def lanes : List Lane := (indices 24).map .front ++ [.timing, .uplink]

theorem mem_lanes (l : Lane) : l ∈ lanes := by cases l <;> simp [lanes]

theorem State.takeStalls_eq (s : State) : s.takeStalls = lanes.foldl State.stallOut s := by
  rw [takeStalls, lanes, List.foldl_append, List.foldl_map, List.foldl_cons, List.foldl_cons, List.foldl_nil]

theorem State.stalls_frame (l : List Lane) (s : State) :
    l.foldl State.stallOut s =
      { s with
        front := (l.foldl State.stallOut s).front, timing := (l.foldl State.stallOut s).timing
        uplink := (l.foldl State.stallOut s).uplink, counters := (l.foldl State.stallOut s).counters
        errors := (l.foldl State.stallOut s).errors } :=
  State.foldl_within
    (R := fun s t => t =
      { s with front := t.front, timing := t.timing, uplink := t.uplink, counters := t.counters, errors := t.errors })
    (fun _ => rfl) (fun _ _ _ first second => by rw [second, first]) State.stallOut_frame l s

theorem State.takeDeadlines_clock (s : State) :
    s.takeDeadlines.timebase = s.timebase ∧ s.takeDeadlines.general = s.general ∧ s.takeDeadlines.orphans = s.orphans := by
  rw [takeDeadlines_eq, expires_frame]
  exact ⟨rfl, rfl, rfl⟩

theorem State.takeOrphans_clock (n : Nat) (s : State) :
    (takeOrphans n s).timebase = s.timebase ∧ (takeOrphans n s).general = s.general ∧ (takeOrphans n s).deadlines = s.deadlines
      ∧ (takeOrphans n s).rx = s.rx := by
  rw [takeOrphans_frame]
  exact ⟨rfl, rfl, rfl, rfl⟩

theorem State.takeStalls_clock (s : State) :
    s.takeStalls.timebase = s.timebase ∧ s.takeStalls.general = s.general ∧ s.takeStalls.deadlines = s.deadlines
      ∧ s.takeStalls.orphans = s.orphans := by
  rw [takeStalls_eq, stalls_frame]
  exact ⟨rfl, rfl, rfl, rfl⟩

theorem State.takeDue_clock (s : State) : s.takeDue.timebase = s.timebase ∧ s.takeDue.general = s.general := by
  obtain ⟨time, general, -⟩ := s.takeDeadlines_clock
  obtain ⟨time', general', -⟩ := takeOrphans_clock s.orphans.length s.takeDeadlines
  obtain ⟨time'', general'', -⟩ := (takeOrphans s.orphans.length s.takeDeadlines).takeStalls_clock
  exact ⟨time''.trans (time'.trans time), general''.trans (general'.trans general)⟩

/-! ### What is due once the expiries are taken -/

/-- An operation over a list that settles its own element and spoils no other settles the list. -/
theorem foldl_settles {α : Type} {f : State → α → State} {P : State → Prop} {due : State → α → Prop} (keeps : ∀ t a,
    P t → P (f t a))
    (own : ∀ t a, P t → ¬ due (f t a) a) (others : ∀ t a b, b ≠ a → due (f t a) b → due t b) {l : List α} {s : State} (start : P s)
      {b : α}
    (done : b ∈ l ∨ ¬ due s b) : ¬ due (l.foldl f s) b := by
  induction l generalizing s with
  | nil => exact done.resolve_left List.not_mem_nil
  | cons a rest ih =>
    refine ih (keeps s a start) ?_
    by_cases same : b = a
    · exact .inr (same ▸ own s a start)
    · exact done.imp (fun mem => (List.mem_cons.1 mem).resolve_left same) fun no yes => no (others s a b same yes)

/-- A slot's deadline expires at this reading. -/
def State.deadlineDueAt (s : State) (i : SlotNo) :
    Prop := (s.deadlines.get i).stage ≠ .none ∧ (s.deadlines.get i).expiry = s.timebase

theorem State.closeSlot_deadline (s : State) (i : SlotNo) (c : Cause) : ((s.closeSlot i c).deadlines.get i).stage = .none := by
  rw [closeSlot_frame]; simp

theorem State.secondExpiry_settles (matching : DeadlinesMatch s) {i : SlotNo} (second : (s.deadlines.get i).stage ≠ .first) :
    ¬ (s.secondExpiry i).deadlineDueAt i := by
  rintro ⟨pending, due⟩
  rw [secondExpiry] at pending due
  split at pending
  · exact pending (s.closeSlot_deadline i _)
  · next early =>
    rw [if_neg early] at due
    refine early ⟨?_, deadlineDue_iff.2 ⟨?_, due⟩⟩ <;>
    · have stage := matching i
      cases slot : (s.slots.get i).state <;> simp_all [stageOf]

theorem State.firstExpiry_matching (matching : DeadlinesMatch s) (i : SlotNo) : DeadlinesMatch (s.firstExpiry i) :=
  (s.firstExpiry_reach .none i).keeps (P := fun _ s => DeadlinesMatch s) (fun m => m.keeps_deadlinesMatch) matching

theorem State.secondExpiry_matching (matching : DeadlinesMatch s) (i : SlotNo) : DeadlinesMatch (s.secondExpiry i) :=
  (s.secondExpiry_reach .none i).keeps (P := fun _ s => DeadlinesMatch s) (fun m => m.keeps_deadlinesMatch) matching

/-- A slot that extends may be due again at once, and its second expiry follows. -/
theorem State.expire_settles (matching : DeadlinesMatch s) (i : SlotNo) : ¬ (s.expire i).deadlineDueAt i := by
  have after := s.firstExpiry_matching matching i
  by_cases first : (s.deadlines.get i).stage = .first
  · have opened : (s.slots.get i).state = .opened := by
      have stage := matching i
      cases slot : (s.slots.get i).state <;> simp_all [stageOf]
    by_cases due : (s.deadlines.get i).expiry = s.timebase
    · refine secondExpiry_settles after ?_
      rw [firstExpiry_due opened first due]
      split
      · rw [extendSlot]; simp
      · rw [closeSlot_deadline]; decide
    · rw [expire, firstExpiry_early (.inr (.inr due)), secondExpiry_early (.inr (.inr due))]
      exact fun yes => due yes.2
  · rw [expire, firstExpiry_early (.inr (.inl first))]
    exact secondExpiry_settles matching first

theorem State.firstExpiry_other (s : State) (i : SlotNo) {j : SlotNo} (other : j ≠ i) :
    (s.firstExpiry i).deadlines.get j = s.deadlines.get j := by
  rw [firstExpiry]
  split
  · split
    · exact Bank.get_set_ne _ _ other
    · rw [closeSlot_frame]; exact Bank.get_set_ne _ _ other
  · rfl

theorem State.secondExpiry_other (s : State) (i : SlotNo) {j : SlotNo} (other : j ≠ i) :
    (s.secondExpiry i).deadlines.get j = s.deadlines.get j := by
  rw [secondExpiry]
  split
  · rw [closeSlot_frame]; exact Bank.get_set_ne _ _ other
  · rfl

/-- A stall timer expires at this reading. -/
def State.stallDueAt (s : State) (l : Lane) : Prop := (s.rx l).frame = .receiving ∧ (s.rx l).stall = some s.timebase

theorem State.countMisplacedStart_rx (s : State) (l m : Lane) : (s.countMisplacedStart l).rx m = s.rx m := by
  cases l <;> cases m <;> rfl

theorem State.stallOut_settles (s : State) (l : Lane) : ¬ (s.stallOut l).stallDueAt l := by
  rintro ⟨receiving, due⟩
  by_cases here : s.stallDueAt l
  · rw [stallOut_due here.1 here.2, countMisplacedStart_rx, (s.leaveFrame_rx l .discarding).2] at receiving
    cases receiving
  · rw [stallOut, if_neg (fun yes => here (by simpa [stallDue, stallDueAt] using yes))] at receiving due
    exact here ⟨receiving, due⟩

theorem State.evalFront_rx_other (s : State) {n : LinkNo} {m : Lane} (other : m ≠ .front n) : (s.evalFront n).rx m = s.rx m := by
  rw [evalFront_eq]
  cases m with
  | front k =>
    have apart : k ≠ n := fun e => other (e ▸ rfl)
    simp [Bank.get_set_ne _ _ apart]
  | timing => rfl
  | uplink => rfl

theorem State.leaveFrame_rx_other (s : State) {l m : Lane} (other : m ≠ l) (next : FrameState) :
    (s.leaveFrame l next).rx m = s.rx m := by
  rw [leaveFrame]
  dsimp only
  split
  · exact State.setRx_rx_ne _ _ other
  · cases l with
    | front n => exact (State.evalFront_rx_other _ other).trans (State.setRx_rx_ne _ _ other)
    | timing => exact State.setRx_rx_ne _ _ other
    | uplink => exact State.setRx_rx_ne _ _ other

theorem State.stallOut_rx_other (s : State) {l m : Lane} (other : m ≠ l) : (s.stallOut l).rx m = s.rx m := by
  rw [stallOut]
  split
  · rw [countMisplacedStart_rx, s.leaveFrame_rx_other other]
  · rfl

/-- An orphan entry expires at this reading. -/
abbrev State.orphanDueAt (s : State) (o : Orphan) : Prop := o.parkTime + BitVec.ofNat 32 s.general.parkTime = s.timebase

theorem State.orphanExpiry_clock (s : State) : s.orphanExpiry.general = s.general ∧ s.orphanExpiry.timebase = s.timebase := by
  rw [orphanExpiry_frame]; exact ⟨rfl, rfl⟩

theorem State.orphanExpiry_orphans (s : State) : s.orphanExpiry.orphans = s.orphans.eraseP s.orphanDue := by
  rw [orphanExpiry]
  split
  · next none => exact (List.eraseP_of_forall_not (List.find?_eq_none.1 none)).symm
  · rw [returnCells_frame]; rfl

/-- As many expiries as there are entries leave none that is due. -/
theorem State.takeOrphans_settles {n : Nat} (many : s.orphans.countP s.orphanDue ≤ n) :
    ∀ o ∈ (State.takeOrphans n s).orphans, ¬ s.orphanDueAt o := by
  induction n generalizing s with
  | zero =>
    intro o mem due
    exact List.countP_eq_zero.1 (Nat.le_zero.1 many) o mem (orphanDue_iff.2 due)
  | succ n ih =>
    obtain ⟨general, time⟩ := s.orphanExpiry_clock
    have same : s.orphanExpiry.orphanDue = s.orphanDue := by funext o; rw [orphanDue, orphanDue, general, time]
    have fewer : s.orphanExpiry.orphans.countP s.orphanExpiry.orphanDue ≤ n := by
      rw [same, orphanExpiry_orphans]
      by_cases some : ∃ o ∈ s.orphans, s.orphanDue o = true
      · obtain ⟨o, mem, due⟩ := some
        obtain ⟨a, before, later, quiet, here, list, left⟩ := List.exists_of_eraseP mem due
        rw [left]
        rw [list, List.countP_append, List.countP_cons_of_pos here] at many
        rw [List.countP_append]
        omega
      · rw [List.eraseP_of_forall_not (fun o mem due => some ⟨o, mem, due⟩),
          List.countP_eq_zero.2 fun o mem due => some ⟨o, mem, due⟩]
        exact Nat.zero_le _
    have rest := ih fewer
    simp only [orphanDueAt, general, time] at rest
    exact rest

/-! ### The commands that take the expiries -/

theorem Spec.after_cons {c : Instr} {cs : List Instr} (executed : exec c s = .next t) :
    Spec.after (c :: cs) s = Spec.after cs t := by
  rw [Spec.after, executed]

/-- Commands of one kind, carried out one after another. -/
theorem Spec.after_map {α : Type} {c : α → Instr} {f : State → α → State} (executed : ∀ s a, exec (c a) s = .next (f s a))
    (l : List α)
    (cs : List Instr) (s : State) : Spec.after (l.map c ++ cs) s = Spec.after cs (l.foldl f s) := by
  induction l generalizing s with
  | nil => rfl
  | cons a rest ih =>
    rw [List.map_cons, List.cons_append, Spec.after_cons (executed s a), ih]
    rfl

theorem Spec.after_deadlines (l : List SlotNo) (cs : List Instr) (s : State) :
    Spec.after (l.flatMap (fun i => [.firstExpiry i, .secondExpiry i]) ++ cs) s = Spec.after cs (l.foldl State.expire s) := by
  induction l generalizing s with
  | nil => rfl
  | cons i rest ih =>
    have first : exec (.firstExpiry i) s = .next (s.firstExpiry i) := rfl
    have second : exec (.secondExpiry i) (s.firstExpiry i) = .next (s.expire i) := rfl
    rw [List.flatMap_cons, List.append_assoc]
    exact (Spec.after_cons first).trans ((Spec.after_cons second).trans (ih _))

theorem Spec.after_orphans (n : Nat) (cs : List Instr) (s : State) :
    Spec.after (List.replicate n .orphanExpiry ++ cs) s = Spec.after cs (State.takeOrphans n s) := by
  induction n generalizing s with
  | zero => rfl
  | succ n ih =>
    have executed : exec .orphanExpiry s = .next s.orphanExpiry := rfl
    rw [List.replicate_succ, List.cons_append, Spec.after_cons executed, ih]
    rfl

/-- The expiries of a microsecond are those commands (R29). -/
theorem State.takeDue_eq (s : State) : s.takeDue = Spec.after (Spec.expiries s) s := by
  have front (t : State) (n : LinkNo) : exec (.frontStallExpiry n) t = .next (t.stallOut (.front n)) := rfl
  have timing (t : State) : exec .timingStallExpiry t = .next (t.stallOut .timing) := rfl
  have uplink (t : State) : exec .requestStallExpiry t = .next (t.stallOut .uplink) := rfl
  have stalls (t : State) :
      Spec.after ((indices 24).map .frontStallExpiry ++ [.timingStallExpiry, .requestStallExpiry]) t = t.takeStalls := by
    rw [Spec.after_map front, Spec.after_cons (timing _), Spec.after_cons (uplink _)]
    rfl
  rw [Spec.expiries, List.append_assoc, List.append_assoc, Spec.after_deadlines, Spec.after_orphans, stalls, takeDue,
    takeDeadlines_eq]

theorem State.takeBoundaries_eq (s : State) : s.takeBoundaries = Spec.boundaries s := by
  have same : State.wordBoundary = Spec.boundary := funext fun t => funext t.wordBoundary_eq
  rw [takeBoundaries, returnLanes, List.foldl_append, List.foldl_map, same, List.foldl_cons, List.foldl_nil, Spec.boundaries]

theorem State.boundary_timebase (s : State) (l : Lane) : (Spec.boundary s l).timebase = s.timebase := by
  cases l with
  | front n => rw [Spec.boundary]; split_ifs <;> rfl
  | timing => rw [Spec.boundary]; split_ifs <;> rfl
  | uplink => rfl

theorem State.boundaries_timebase (s : State) : (Spec.boundaries s).timebase = s.timebase := by
  have fronts (l : List LinkNo) (t : State) : (l.foldl (fun t n => Spec.boundary t (.front n)) t).timebase = t.timebase := by
    induction l generalizing t with
    | nil => rfl
    | cons n rest ih => exact (ih _).trans (t.boundary_timebase _)
  rw [Spec.boundaries, boundary_timebase, fronts]

theorem State.deadlineDueAt_none_iff :
    ¬ s.deadlineDueAt i ↔ (s.deadlines.get i).stage = .none ∨ (s.deadlines.get i).expiry ≠ s.timebase := by
  rw [deadlineDueAt, not_and_or, not_not]

theorem State.takeDeadlines_settles (matching : DeadlinesMatch s) (i : SlotNo) : ¬ s.takeDeadlines.deadlineDueAt i := by
  rw [takeDeadlines_eq]
  refine foldl_settles (P := DeadlinesMatch) (fun t i k => (t.firstExpiry i).secondExpiry_matching (t.firstExpiry_matching k i) i)
    (fun t i k => t.expire_settles k i) (fun t i j other due => ?_) matching (.inl (mem_indices i))
  have same : (t.expire i).deadlines.get j = t.deadlines.get j :=
    ((t.firstExpiry i).secondExpiry_other i other).trans (t.firstExpiry_other i other)
  have time : (t.expire i).timebase = t.timebase := by rw [expire_frame]
  change (t.expire i).deadlineDueAt j at due
  rw [deadlineDueAt, same, time] at due
  exact due

theorem State.takeStalls_settles (s : State) (l : Lane) : ¬ s.takeStalls.stallDueAt l := by
  rw [takeStalls_eq]
  refine foldl_settles (P := fun _ => True) (fun _ _ k => k) (fun t m _ => t.stallOut_settles m) (fun t m k other due => ?_) trivial
    (.inl (mem_lanes l))
  have time : (t.stallOut m).timebase = t.timebase := by rw [stallOut_frame]
  rw [stallDueAt, t.stallOut_rx_other other, time] at due
  exact due

/-- After the expiries of a microsecond nothing of its reading is due (R29). -/
theorem State.takeDue_settles (matching : DeadlinesMatch s) : Spec.nothingDue s.takeDue := by
  obtain ⟨time, general, orphans⟩ := s.takeDeadlines_clock
  obtain ⟨time', general', deadlines', -⟩ := takeOrphans_clock s.orphans.length s.takeDeadlines
  obtain ⟨time'', general'', deadlines'', orphans''⟩ := (takeOrphans s.orphans.length s.takeDeadlines).takeStalls_clock
  refine ⟨fun i => ?_, fun o mem due => ?_, fun l receiving due => ?_⟩
  · rw [takeDue, time'', deadlines'', deadlines', time', ← deadlineDueAt_none_iff]
    exact s.takeDeadlines_settles matching i
  · rw [takeDue] at mem due
    rw [general'', time'', general', time'] at due
    rw [orphans''] at mem
    have many : s.takeDeadlines.orphans.countP s.takeDeadlines.orphanDue ≤ s.orphans.length := by
      rw [← orphans]; exact List.countP_le_length
    exact takeOrphans_settles many o mem due
  · rw [takeDue] at receiving due
    exact takeStalls_settles _ l ⟨receiving, due⟩

/-- Where nothing is due nothing is taken (log entry 2). -/
theorem State.takeDue_of_nothingDue (quiet : Spec.nothingDue s) : s.takeDue = s := by
  obtain ⟨deadlines, orphans, stalls⟩ := quiet
  have expire (i : SlotNo) : s.expire i = s := by
    have early := (deadlines i)
    rw [expire, firstExpiry_early, secondExpiry_early]
    · exact .inr (early.imp (fun none => by rw [none]; decide) id)
    · exact .inr (early.imp (fun none => by rw [none]; decide) id)
  have stall (l : Lane) : s.stallOut l = s := by
    by_cases receiving : (s.rx l).frame = .receiving
    · exact stallOut_early (stalls l receiving)
    · refine if_neg fun due => receiving ?_
      rw [stallDue, Bool.and_eq_true, beq_iff_eq] at due
      exact due.1
  have none (n : Nat) : takeOrphans n s = s := by
    induction n with
    | zero => rfl
    | succ n ih => rw [takeOrphans, orphanExpiry_early orphans, ih]
  rw [takeDue, takeDeadlines_eq, List.foldl_fixed' expire, none, takeStalls_eq, List.foldl_fixed' stall]

/-- Settles O2. -/
theorem idleStepEndsAMicrosecond : Obligations.IdleStepEndsAMicrosecond := by
  intro s idle
  dsimp only
  rw [← State.takeDue_eq]
  refine ⟨?_, ?_, State.takeDue_settles, State.takeDue_of_nothingDue⟩
  · rw [step, idle, State.tick, State.takeBoundaries_eq, State.boundaries_timebase, s.takeDue_clock.1]
  · exact s.takeDue_clock.1

end Sys2Proof.Machine
end

section
/-! THEOREMS. Trigger intake: what is discarded, ignored and refused (O31), and an admission (O32). -/

namespace Sys2Proof.Machine

open Sys2Proof.Safety

variable {s t u : State} {tag : Tag}

/-! ### The END of a timing frame (R57, R58) -/

theorem Spec.cleared_timing (s : State) : (Spec.cleared s .timing).timing = { s.timing with codeErrors := 0 } := rfl

/-- The END of a frame in RECEIVING that is no trigger message. -/
theorem exec_linkEnd_timing_bad {before : State} (receiving : Spec.receiving (Spec.boundary before .timing) .timing)
    (bad : (Spec.boundary before .timing).timing.words.length ≠ 6 ∨ Spec.crcFails (Spec.boundary before .timing).timing.words) :
    exec (.linkEnd .timing) before =
      .next ({ Spec.boundary before .timing with timing := Spec.frameOver (Spec.boundary before .timing).timing .outside }.bump
        (.part .timingFrameDiscarded)) := by
  obtain ⟨live, frame, crc⟩ := receiving
  generalize before' : Spec.boundary before .timing = s at live frame crc bad ⊢
  have executed : exec (.linkEnd .timing) before = .next (Spec.cleared s .timing).judgeTiming := by
    rw [exec_linkEnd_live before .timing (before' ▸ live), before', State.endLive_receiving (State.cleared_frame frame)]
  have good : (Spec.cleared s .timing).timing.crcGood = true ↔ ¬ Spec.crcFails s.timing.words := Receiver.crcGood_iff crc
  rw [executed, State.judgeTiming]
  dsimp only
  rw [if_neg (fun both => bad.elim (fun no => no both.1) (good.1 both.2)), State.cleared_leaveFrame_timing]
  rfl

theorem stampOf_eq (hi mid lo : Word) : stampOf hi mid lo = hi ++ mid ++ lo := by
  apply BitVec.eq_of_toNat_eq
  rw [stampOf, BitVec.toNat_ofNat, BitVec.toNat_append, ← Nat.shiftLeft_add_eq_or_of_lt lo.isLt, BitVec.toNat_append,
    ← Nat.shiftLeft_add_eq_or_of_lt mid.isLt, Nat.shiftLeft_eq, Nat.shiftLeft_eq]
  have := hi.isLt; have := mid.isLt; have := lo.isLt
  omega

/-- The END of a trigger message. -/
theorem exec_linkEnd_timing_good {before : State} {cls hi mid lo : Word}
    (receiving : Spec.receiving (Spec.boundary before .timing) .timing)
    (words : (Spec.boundary before .timing).timing.words = [tag, cls, hi, mid, lo, crcOf [tag, cls, hi, mid, lo]]) :
    exec (.linkEnd .timing) before =
      .next ({ Spec.boundary before .timing with timing := Spec.frameOver (Spec.boundary before .timing).timing .outside
        }.receiveTrigger
        ⟨tag, Fin.ofNat 8 cls.toNat, hi ++ mid ++ lo⟩) := by
  obtain ⟨live, frame, crc⟩ := receiving
  generalize before' : Spec.boundary before .timing = s at live frame crc words ⊢
  have executed : exec (.linkEnd .timing) before = .next (Spec.cleared s .timing).judgeTiming := by
    rw [exec_linkEnd_live before .timing (before' ▸ live), before', State.endLive_receiving (State.cleared_frame frame)]
  have good : (Spec.cleared s .timing).timing.crcGood = true := by
    refine (Receiver.crcGood_iff crc).2 fun fails => fails ?_
    show s.timing.words.getLast? = some (crcOf s.timing.words.dropLast)
    rw [words]
    rfl
  have six : (Spec.cleared s .timing).timing.words.length = Config.triggerWords := by
    show s.timing.words.length = 6
    rw [words]
    rfl
  have same : triggerOf (Spec.cleared s .timing).timing.words = ⟨tag, Fin.ofNat 8 cls.toNat, hi ++ mid ++ lo⟩ := by
    show triggerOf s.timing.words = _
    rw [words, triggerOf, stampOf_eq]
  rw [executed, State.judgeTiming]
  dsimp only
  rw [if_pos ⟨six, good⟩, State.cleared_leaveFrame_timing, same]

/-! ### Refusals (R60 to R65) -/

theorem filter_tag (l : List Orphan) (tag : Tag) : l.filter (fun o => o.tag == tag) = l.filter fun o => decide (o.tag = tag) := by
  congr 1

theorem filter_other_tag (l : List Orphan) (tag : Tag) :
    l.filter (fun o => !(o.tag == tag)) = l.filter fun o => decide (o.tag ≠ tag) := by
  congr 1
  funext o
  by_cases same : o.tag = tag <;> simp [same]

theorem State.refuseTrigger_eq (u : State) (tag : Tag) (c : Counter) (e : ErrorCause) :
    u.refuseTrigger tag c e =
      (Spec.cellsBack
        ((u.orphans.filter fun o => decide (o.tag = tag)).foldl (fun (t : State) (o : Orphan) => Spec.stray t o.link)
          { u with
            pendingSkipped := min 65535 (u.pendingSkipped + 1)
            orphans := u.orphans.filter fun o => decide (o.tag ≠ tag) })
        ((u.orphans.filter fun o => decide (o.tag = tag)).flatMap Orphan.cells) |>.bump c).addError e := by
  rw [refuseTrigger, dropOrphans]
  dsimp only
  rw [filter_tag, filter_other_tag]
  rfl

theorem State.receiveTrigger_stopped (m : Trigger) (stopped : u.runState ≠ .running) :
    u.receiveTrigger m = u.bump (.part .triggerOutsideRun) := if_pos stopped

theorem State.receiveTrigger_disabled {m : Trigger} (running : u.runState = .running)
    (disabled : (u.classes.get m.cls).kind = .disabled) :
    u.receiveTrigger m = u.refuseTrigger m.tag (.part .refusedDisabled) .triggerRefused :=
  (if_neg (not_not.2 running)).trans (if_pos disabled)

theorem State.receiveTrigger_duplicate {m : Trigger} (running : u.runState = .running)
    (enabled : (u.classes.get m.cls).kind ≠ .disabled)
    (known : ¬ Spec.unmatched u m.tag) : u.receiveTrigger m = u.refuseTrigger m.tag (.part .refusedDuplicate) .triggerDuplicate :=
  (if_neg (not_not.2 running)).trans ((if_neg enabled).trans
    (if_pos (Option.isSome_iff_ne_none.2 fun none => known ((u.slotOfTag_none _).1 none))))

theorem State.receiveTrigger_full {m : Trigger} (running : u.runState = .running) (enabled : (u.classes.get m.cls).kind ≠ .disabled)
    (fresh : Spec.unmatched u m.tag) (full : (u.classes.get m.cls).admission ≤ u.fill) :
    u.receiveTrigger m = u.refuseTrigger m.tag (.refusedLevel m.cls) .triggerRefused :=
  (if_neg (not_not.2 running)).trans ((if_neg enabled).trans
    ((if_neg (by rw [(u.slotOfTag_none _).2 fresh]; decide)).trans (if_pos full)))

theorem State.receiveTrigger_admitted {m : Trigger} (running : u.runState = .running)
    (enabled : (u.classes.get m.cls).kind ≠ .disabled)
    (fresh : Spec.unmatched u m.tag) (room : u.fill < (u.classes.get m.cls).admission) : u.receiveTrigger m = u.openTrigger m :=
  (if_neg (not_not.2 running)).trans ((if_neg enabled).trans
    ((if_neg (by rw [(u.slotOfTag_none _).2 fresh]; decide)).trans (if_neg (Nat.not_le.2 room))))

/-- Settles O31. -/
theorem triggersAreDiscardedIgnoredOrRefused : Obligations.TriggersAreDiscardedIgnoredOrRefused := by
  intro before s u
  refine ⟨fun live outside => ?_, fun live discarding => ?_, exec_linkEnd_timing_bad, ?_⟩
  · rw [exec_linkEnd_live before .timing live, State.endLive_outside (State.cleared_frame (l := .timing) outside)]; rfl
  · rw [exec_linkEnd_live before .timing live, State.endLive_discarding (State.cleared_frame (l := .timing) discarding)]; rfl
  · intro tag cls hi mid lo k gone fewer receiving words
    let m : Trigger := ⟨tag, k, hi ++ mid ++ lo⟩
    have executed : exec (.linkEnd .timing) before = .next (u.receiveTrigger m) := exec_linkEnd_timing_good receiving words
    have refused (c : Counter) (e : ErrorCause) : u.refuseTrigger tag c e = (fewer.bump c).addError e := u.refuseTrigger_eq tag c e
    refine ⟨fun stopped => ?_, fun running disabled => ?_, fun running enabled known => ?_, fun running enabled fresh full => ?_⟩
    · rw [executed, State.receiveTrigger_stopped (u := u) m stopped]
    · rw [executed, State.receiveTrigger_disabled (u := u) (m := m) running disabled, refused]
    · rw [executed, State.receiveTrigger_duplicate (u := u) (m := m) running enabled known, refused]
    · rw [executed, State.receiveTrigger_full (u := u) (m := m) running enabled fresh full, refused]

end Sys2Proof.Machine
end

section
/-! THEOREMS. An admission and the adoption of the orphans of its tag (O32). -/

namespace Sys2Proof.Machine

open Sys2Proof.Safety

variable {s t u v w : State} {i : SlotNo} {o : Orphan}

/-! ### Adoption (R49) -/

theorem State.duplicateAtSlot_eq (s : State) (i : SlotNo) (n : LinkNo) : s.duplicateAtSlot i n = Spec.duplicateAt s i n := rfl

theorem State.adoptInto_eq (s : State) (i : SlotNo) (o : Orphan) : s.adoptInto i o = Spec.adopts i s o := by
  rw [adoptInto, Spec.adopts]
  dsimp only
  cases (s.slots.get i).contribs.get o.link with
  | none => rfl
  | some c => cases c <;> rfl

theorem State.adoptAll_eq (s : State) (i : SlotNo) (tag : Tag) :
    s.adoptAll i tag =
      (s.orphans.filter fun o => decide (o.tag = tag)).foldl (Spec.adopts i)
        { s with orphans := s.orphans.filter fun o => decide (o.tag ≠ tag) } := by
  rw [adoptAll, filter_tag, filter_other_tag]
  congr 1
  funext t o
  exact t.adoptInto_eq i o

/-- A contribution of an OPEN slot that has just opened: outside the expected set, AWAITED, ABSENT, or adopted already. -/
def Contribution.Fresh (c : Option Contribution) : Prop := c = none ∨ c = some .awaited ∨ c = some .absent ∨ c = some .queued

/-- What the adoption of the entries of a list does to a slot that has just opened, and what it leaves unchanged (R49, R50). -/
structure AdoptedInto (i : SlotNo) (l : List Orphan) (v w : State) : Prop where
  frame : w =
    { v with
      slots := w.slots, adoption := w.adoption, counters := w.counters, errors := w.errors, freeQueue := w.freeQueue
      timingFlow := w.timingFlow, timingDue := w.timingDue }
  others : ∀ j, j ≠ i → w.slots.get j = v.slots.get j
  slot : w.slots.get i =
    { v.slots.get i with contribs := (w.slots.get i).contribs, duplicate := (w.slots.get i).duplicate }
  contribs : ∀ n, (w.slots.get i).contribs.get n =
    if (∃ o ∈ l, o.link = n) ∧ (v.slots.get i).contribs.get n ≠ none then some .queued else (v.slots.get i).contribs.get n
  adoption : ∃ more, w.adoption = v.adoption ++ more
    ∧ ∀ e ∈ more, e.slot = i ∧ (∃ o ∈ l, o.link = e.link ∧ o.cells = e.cells ∧ o.tag = e.tag)
      ∧ (e.expected = true ↔ (v.slots.get i).contribs.get e.link ≠ none)

theorem AdoptedInto.refl (i : SlotNo) (v : State) : AdoptedInto i [] v v where
  frame := rfl
  others _ _ := rfl
  slot := rfl
  contribs n := (if_neg fun both => by obtain ⟨⟨o, mem, -⟩, -⟩ := both; cases mem).symm
  adoption := ⟨[], (List.append_nil _).symm, fun _ mem => by cases mem⟩

theorem AdoptedInto.none_iff {l : List Orphan} (k : AdoptedInto i l v w) (n : LinkNo) :
    (w.slots.get i).contribs.get n = none ↔ (v.slots.get i).contribs.get n = none := by
  rw [k.contribs n]
  split
  · next both => exact ⟨fun e => (by cases e), fun e => absurd e both.2⟩
  · exact Iff.rfl

theorem AdoptedInto.trans {l m : List Orphan} (first : AdoptedInto i l u v) (second : AdoptedInto i m v w) :
    AdoptedInto i (l ++ m) u w where
  frame := by rw [second.frame, first.frame]
  others j other := (second.others j other).trans (first.others j other)
  slot := by rw [second.slot, first.slot]
  contribs n := by
    rw [second.contribs n, first.contribs n]
    by_cases empty : (u.slots.get i).contribs.get n = none
    · simp [empty]
    · by_cases early : ∃ o ∈ l, o.link = n
      · obtain ⟨o, mem, link⟩ := early
        rw [if_pos (show (∃ o ∈ l, o.link = n) ∧ _ from ⟨⟨o, mem, link⟩, empty⟩),
          if_pos (show (∃ o ∈ l ++ m, o.link = n) ∧ _ from ⟨⟨o, List.mem_append_left m mem, link⟩, empty⟩)]
        exact ite_self _
      · rw [if_neg (show ¬ ((∃ o ∈ l, o.link = n) ∧ (u.slots.get i).contribs.get n ≠ none) from fun both => early both.1)]
        refine if_congr (and_congr ⟨?_, ?_⟩ Iff.rfl) rfl rfl
        · rintro ⟨o, mem, link⟩
          exact ⟨o, List.mem_append_right l mem, link⟩
        · rintro ⟨o, mem, link⟩
          exact ⟨o, (List.mem_append.1 mem).resolve_left fun old => early ⟨o, old, link⟩, link⟩
  adoption := by
    obtain ⟨some, list, entries⟩ := first.adoption
    obtain ⟨more, list', entries'⟩ := second.adoption
    refine ⟨some ++ more, by rw [list', list, List.append_assoc], fun e mem => ?_⟩
    rcases List.mem_append.1 mem with old | new
    · obtain ⟨slot, ⟨o, from_, same⟩, expected⟩ := entries e old
      exact ⟨slot, ⟨o, List.mem_append_left m from_, same⟩, expected⟩
    · obtain ⟨slot, ⟨o, from_, same⟩, expected⟩ := entries' e new
      exact ⟨slot, ⟨o, List.mem_append_right l from_, same⟩, expected.trans (not_congr (first.none_iff e.link))⟩

theorem AdoptedInto.fresh {l : List Orphan} (k : AdoptedInto i l v w) (fresh : ∀ n,
    Contribution.Fresh ((v.slots.get i).contribs.get n)) :
    ∀ n, Contribution.Fresh ((w.slots.get i).contribs.get n) := by
  intro n
  rw [k.contribs n]
  split
  · exact .inr (.inr (.inr rfl))
  · exact fresh n

theorem mem_one_link {n : LinkNo} : (∃ p ∈ [o], p.link = n) ↔ n = o.link := by
  simp [eq_comm]

/-- An entry for a link that the slot waits for is expected (R49). -/
theorem State.adopts_expected (waited : (v.slots.get i).contribs.get o.link = some .awaited ∨ (v.slots.get i).contribs.get o.link
    = some .absent) :
    AdoptedInto i [o] v (Spec.adopts i v o) := by
  have filled : (v.slots.get i).contribs.get o.link ≠ none := by rcases waited with e | e <;> rw [e] <;> decide
  have adopted : Spec.adopts i v o =
      { v.setSlot i { v.slots.get i with contribs := (v.slots.get i).contribs.set o.link (some .queued) } with
        adoption := v.adoption ++ [o.entry i true] }.bump (.part .orphansAdopted) :=
    if_pos (waited.imp id .inr)
  rw [adopted]
  refine ⟨rfl, fun j other => Bank.get_set_ne _ _ other, ?_, fun n => ?_, [o.entry i true], rfl, fun e mem => ?_⟩
  · simp
  · refine Eq.trans ?_ (if_congr (and_congr mem_one_link Iff.rfl) rfl rfl).symm
    simp only [State.bump_slots, State.setSlot_slots, Bank.get_set_self, Bank.get_set]
    by_cases same : n = o.link
    · subst same; rw [if_pos rfl, if_pos ⟨rfl, filled⟩]
    · rw [if_neg same, if_neg fun both => same both.1]
  · obtain rfl := List.mem_singleton.1 mem
    exact ⟨rfl, ⟨o, List.mem_singleton_self o, rfl, rfl, rfl⟩, fun _ => filled, fun _ => rfl⟩

/-- An entry for a link outside the expected set is an extra candidate (R49). -/
theorem State.adopts_candidate (outside : (v.slots.get i).contribs.get o.link = none) :
    AdoptedInto i [o] v (Spec.adopts i v o) := by
  have adopted : Spec.adopts i v o = { v with adoption := v.adoption ++ [o.entry i false] }.bump (.part .orphansAdopted) :=
    (if_neg (by simp [outside])).trans (if_pos outside)
  rw [adopted]
  refine ⟨rfl, fun j other => rfl, rfl, fun n => ?_, [o.entry i false], rfl, fun e mem => ?_⟩
  · refine (if_neg ?_).symm
    rintro ⟨here, filled⟩
    exact filled (mem_one_link.1 here ▸ outside)
  · obtain rfl := List.mem_singleton.1 mem
    exact ⟨rfl, ⟨o, List.mem_singleton_self o, rfl, rfl, rfl⟩, fun e => Bool.noConfusion e, fun filled => absurd outside filled⟩

/-- An entry for a link that has one adopted already is a duplicate (R49). -/
theorem State.adopts_duplicate (queued : (v.slots.get i).contribs.get o.link = some .queued) :
    AdoptedInto i [o] v (Spec.adopts i v o) := by
  have adopted : Spec.adopts i v o = (v.duplicateAtSlot i o.link).returnCells o.cells :=
    (if_neg (by simp [queued])).trans (if_neg (by simp [queued]))
  rw [adopted, returnCells_frame]
  refine ⟨rfl, fun j other => Bank.get_set_ne _ _ other, ?_, fun n => ?_, [], (List.append_nil _).symm, fun e mem => by cases mem⟩
  · simp [duplicateAtSlot]
  · have same : (((v.duplicateAtSlot i o.link).slots.get i).contribs.get n) = (v.slots.get i).contribs.get n := by
      simp [duplicateAtSlot]
    refine same.trans ?_
    split
    · next both =>
      obtain rfl := mem_one_link.1 both.1
      exact queued
    · rfl

theorem State.adopts_one (fresh : ∀ n, Contribution.Fresh ((v.slots.get i).contribs.get n)) (o : Orphan) :
    AdoptedInto i [o] v (Spec.adopts i v o) := by
  obtain outside | waited | waited | queued := fresh o.link
  · exact adopts_candidate outside
  · exact adopts_expected (.inl waited)
  · exact adopts_expected (.inr waited)
  · exact adopts_duplicate queued

/-- Each entry of a list adopted. -/
theorem State.adopts_all (fresh : ∀ n, Contribution.Fresh ((v.slots.get i).contribs.get n)) (l : List Orphan) :
    AdoptedInto i l v (l.foldl (Spec.adopts i) v) := by
  induction l generalizing v with
  | nil => exact AdoptedInto.refl i v
  | cons o rest ih =>
    have one := State.adopts_one fresh o
    exact one.trans (ih (one.fresh fresh))

/-! ### Admission (R66) -/

theorem Spec.tested_frame (s : State) (i : SlotNo) :
    Spec.tested s i = { s with slots := (Spec.tested s i).slots, deadlines := (Spec.tested s i).deadlines } := by
  rw [Spec.tested]
  split <;> rfl

theorem Spec.tested_other (s : State) {i j : SlotNo} (other : j ≠ i) :
    (Spec.tested s i).slots.get j = s.slots.get j ∧ (Spec.tested s i).deadlines.get j = s.deadlines.get j := by
  rw [Spec.tested]
  split
  · exact ⟨Bank.get_set_ne _ _ other, Bank.get_set_ne _ _ other⟩
  · exact ⟨rfl, rfl⟩

theorem Spec.tested_yes (opened : Spec.isOpen (s.slots.get i)) (all : Spec.allIn (s.slots.get i)) :
    Spec.tested s i = Spec.closes s i .allIn := if_pos ⟨opened, all⟩

theorem Spec.tested_no (some : ¬ Spec.allIn (s.slots.get i)) : Spec.tested s i = s := if_neg fun both => some both.2

/-- A slot that is ALL_IN has no AWAITED contribution to turn. -/
theorem Spec.closed_contribs {x : Slot} (all : Spec.allIn x) (c : Cause) (n : LinkNo) :
    (Spec.closed x c).contribs.get n = x.contribs.get n := by
  show (Spec.closedContribs x).get n = _
  rw [Spec.closedContribs, Bank.get_build, if_neg (all.1 n)]

/-- The tested slot is the slot, closed where it is ALL_IN. -/
theorem Spec.tested_slot (opened : Spec.isOpen (s.slots.get i)) :
    if Spec.allIn (s.slots.get i) then
      (Spec.tested s i).slots.get i = Spec.closed (s.slots.get i) .allIn
        ∧ (Spec.tested s i).deadlines.get i = { s.deadlines.get i with stage := .none }
    else (Spec.tested s i).slots.get i = s.slots.get i ∧ (Spec.tested s i).deadlines.get i = s.deadlines.get i := by
  split
  · next all =>
    rw [tested_yes opened all]
    exact ⟨Bank.get_set_self _ _ _, Bank.get_set_self _ _ _⟩
  · next some =>
    rw [tested_no some]
    exact ⟨rfl, rfl⟩

/-- An admission is the opening of the slot, the adoption, the test and the count (R66). -/
theorem State.openTrigger_eq (u : State) (m : Trigger) :
    u.openTrigger m =
      (Spec.tested
        ((u.orphans.filter fun o => decide (o.tag = m.tag)).foldl (Spec.adopts u.put)
          { u.openSlot m with orphans := u.orphans.filter fun o => decide (o.tag ≠ m.tag) }) u.put).bump (.admitted m.cls) := by
  have orphans : (u.openSlot m).orphans = u.orphans := by rw [openSlot_frame]
  rw [openTrigger, adoptAll_eq, allInCheck_eq, orphans]

/-- What trigger intake keeps of the messages it has admitted, and the orphan list. -/
def State.intake (s : State) : Option Tag × Nat × SlotNo × Nat × List Orphan :=
  (s.newestTag, s.pendingSkipped, s.put, s.fill, s.orphans)

theorem Spec.tested_intake (s : State) (i : SlotNo) :
    (Spec.tested s i).intake = s.intake ∧ (Spec.tested s i).adoption = s.adoption := by
  rw [tested_frame]; exact ⟨rfl, rfl⟩

theorem AdoptedInto.intake {l : List Orphan} (k : AdoptedInto i l v w) : w.intake = v.intake ∧ w.deadlines = v.deadlines := by
  rw [k.frame]; exact ⟨rfl, rfl⟩

/-- Settles O32: the slot opens, and the entries of its tag are adopted one after another. -/
theorem triggersAreAdmitted : Obligations.TriggersAreAdmitted := by
  intro before tag cls hi mid lo s k c contribs x d opened met adopted t y receiving words running enabled fresh room
  let m : Trigger := ⟨tag, k, hi ++ mid ++ lo⟩
  let u : State := { s with timing := Spec.frameOver s.timing .outside }
  let v : State := { opened with orphans := s.orphans.filter fun o => decide (o.tag ≠ tag) }
  have frame : opened =
      { s with
        timing := Spec.frameOver s.timing .outside, slots := s.slots.set s.put x, deadlines := s.deadlines.set s.put d
        pendingSkipped := 0, put := s.put + 1, fill := s.fill + 1, newestTag := some tag
        timingFlow := opened.timingFlow, timingDue := opened.timingDue } := State.evalTiming_frame _
  have slot : v.slots.get s.put = x := (congrArg (fun w : State => w.slots.get s.put) frame).trans (Bank.get_set_self _ _ _)
  have deadline : v.deadlines.get s.put = d := (congrArg (fun w : State => w.deadlines.get s.put) frame).trans
    (Bank.get_set_self _ _ _)
  have fresh' (n : LinkNo) : Contribution.Fresh ((v.slots.get s.put).contribs.get n) := by
    rw [slot]
    show Contribution.Fresh (contribs.get n)
    rw [Bank.get_build]
    split_ifs
    · exact .inr (.inl rfl)
    · exact .inr (.inr (.inl rfl))
    · exact .inl rfl
  have all : AdoptedInto s.put met v adopted := State.adopts_all fresh' met
  have admitted : exec (.linkEnd .timing) before = .next t := by
    rw [exec_linkEnd_timing_good receiving words]
    refine congrArg Host.Outcome.next ((State.receiveTrigger_admitted (u := u) (m := m) running enabled fresh room).trans ?_)
    rw [State.openTrigger_eq]
    rfl
  obtain ⟨intake, queue⟩ := Spec.tested_intake adopted s.put
  obtain ⟨intake', deadlines⟩ := all.intake
  have registers : t.intake = (some tag, 0, s.put + 1, s.fill + 1, s.orphans.filter fun o => decide (o.tag ≠ tag)) := by
    refine (show t.intake = (Spec.tested adopted s.put).intake from rfl).trans (intake.trans (intake'.trans ?_))
    show (opened.newestTag, opened.pendingSkipped, opened.put, opened.fill, _) = _
    rw [frame]
  simp only [State.intake, Prod.mk.injEq] at registers
  obtain ⟨newest, skipped, put, fill, orphans⟩ := registers
  have state : (adopted.slots.get s.put).state = .opened := by rw [all.slot, slot]
  have seen := Spec.tested_slot (s := adopted) (i := s.put) (.inl state)
  have same : (y.tag = tag ∧ y.cls = k ∧ y.stamp = hi ++ mid ++ lo ∧ y.skippedBefore = s.pendingSkipped)
      ∧ ∀ n, y.contribs.get n = (adopted.slots.get s.put).contribs.get n := by
    have slots : y = (Spec.tested adopted s.put).slots.get s.put := rfl
    split at seen
    · next allIn =>
      rw [slots, seen.1]
      exact ⟨by rw [Spec.closed, all.slot, slot]; exact ⟨rfl, rfl, rfl, rfl⟩, Spec.closed_contribs allIn _⟩
    · rw [slots, seen.1]
      exact ⟨by rw [all.slot, slot]; exact ⟨rfl, rfl, rfl, rfl⟩, fun _ => rfl⟩
  obtain ⟨⟨ytag, ycls, ystamp, yskipped⟩, ycontribs⟩ := same
  have alone (none : met = []) : adopted = opened := by
    have list : s.orphans.filter (fun o => decide (o.tag ≠ tag)) = opened.orphans := by
      refine (List.filter_eq_self.2 fun o mem => ?_).trans (congrArg State.orphans frame).symm
      rw [decide_eq_true_iff]
      intro carries
      exact List.not_mem_nil (none ▸ List.mem_filter.2 ⟨mem, decide_eq_true carries⟩ : o ∈ [])
    show met.foldl _ { opened with orphans := s.orphans.filter fun o => decide (o.tag ≠ tag) } = opened
    rw [none, list]
    rfl
  refine ⟨admitted, fun none allIn => ?_, fun none some => ?_, newest, skipped, put, fill, orphans, ytag, ycls, ystamp, yskipped,
    fun n => ?_, ?_, ?_, fun j other => ?_⟩
  · have here : opened.slots.get s.put = x := slot
    show (Spec.tested adopted s.put).bump _ = _
    rw [alone none, Spec.tested_yes (alone none ▸ .inl state) (here ▸ allIn)]
  · have here : opened.slots.get s.put = x := slot
    show (Spec.tested adopted s.put).bump _ = _
    rw [alone none, Spec.tested_no (here ▸ some)]
  · rw [ycontribs, all.contribs, slot]
    refine if_congr (and_congr ⟨?_, ?_⟩ Iff.rfl) rfl rfl
    · rintro ⟨o, mem, link⟩
      obtain ⟨list, carries⟩ := List.mem_filter.1 mem
      exact ⟨o, list, of_decide_eq_true carries, link⟩
    · rintro ⟨o, list, carries, link⟩
      exact ⟨o, List.mem_filter.2 ⟨list, decide_eq_true carries⟩, link⟩
  · have slots : y = (Spec.tested adopted s.put).slots.get s.put := rfl
    have times : t.deadlines.get s.put = (Spec.tested adopted s.put).deadlines.get s.put := rfl
    rw [slots, times]
    split at seen
    · next allIn => rw [if_pos allIn, seen.1, seen.2, deadlines, deadline]; exact ⟨rfl, rfl⟩
    · next some => rw [if_neg some, seen.1, seen.2, deadlines, deadline]; exact ⟨rfl, state, rfl⟩
  · obtain ⟨more, list, entries⟩ := all.adoption
    refine ⟨more, ?_, fun e mem => ?_⟩
    · have before : opened.adoption = s.adoption := by rw [frame]
      exact queue.trans (list.trans (congrArg (fun l => l ++ more) before))
    · obtain ⟨place, ⟨o, from_, link, cells, carries⟩, expected⟩ := entries e mem
      refine ⟨place, carries.symm.trans (of_decide_eq_true (List.mem_filter.1 from_).2), ⟨o, from_, link, cells⟩, ?_⟩
      rw [expected, slot]
  · obtain ⟨slots, times⟩ := Spec.tested_other adopted other
    refine ⟨?_, ?_⟩
    · exact slots.trans ((all.others j other).trans
        ((congrArg (fun w : State => w.slots.get j) frame).trans (Bank.get_set_ne _ _ other)))
    · exact times.trans ((congrArg (fun b : Bank Deadline 64 => b.get j) deadlines).trans
        ((congrArg (fun w : State => w.deadlines.get j) frame).trans (Bank.get_set_ne _ _ other)))

end Sys2Proof.Machine
end

section
/-! THEOREMS. The grant that delivers a pending loss notice, in both orders (O38). -/

namespace Sys2Proof.Machine

open Sys2Proof.Safety

variable {s t u v w : State} {n : LinkNo} {frame : List Word} {urgent : Bool}

/-! ### A loss notice reads the slots and their deadlines alone (R23) -/

theorem NoticedAs.unique {p q r : Slot × Deadline} (first : NoticedAs n p q) (second : NoticedAs n p r) : q = r := by
  rw [NoticedAs] at first second
  by_cases awaited : Spec.isOpen p.1 ∧ p.1.contribs.get n = some .awaited
  · rw [if_pos awaited] at first second
    by_cases all : Spec.allIn { p.1 with contribs := p.1.contribs.set n (some .lost) }
    · exact (first.1 all).trans (second.1 all).symm
    · exact (first.2 all).trans (second.2 all).symm
  · rw [if_neg awaited] at first second
    exact first.trans second.symm

theorem State.lossNotice_congr (slots : s.slots = t.slots) (deadlines : s.deadlines = t.deadlines) (n : LinkNo) :
    (s.lossNotice n).slots = (t.lossNotice n).slots ∧ (s.lossNotice n).deadlines = (t.lossNotice n).deadlines := by
  have same (i : SlotNo) : (s.lossNotice n).slotAt i = (t.lossNotice n).slotAt i := by
    have before : s.slotAt i = t.slotAt i := by rw [slotAt, slotAt, slots, deadlines]
    have other := t.lossNotice_slotAt n i
    rw [← before] at other
    exact (s.lossNotice_slotAt n i).unique other
  generalize s.lossNotice n = a at same ⊢
  generalize t.lossNotice n = b at same ⊢
  exact ⟨Bank.ext_get fun i => congrArg Prod.fst (same i), Bank.ext_get fun i => congrArg Prod.snd (same i)⟩

/-- No OPEN or EXTENDED slot awaits a fragment of a link. -/
def NoneAwaited (n : LinkNo) (s : State) : Prop := ∀ i, Spec.isOpen (s.slots.get i) → (s.slots.get i).contribs.get n ≠ some .awaited

theorem Spec.closed_not_open (x : Slot) (c : Cause) : ¬ Spec.isOpen (Spec.closed x c) := by
  show ¬ ((if Spec.waits x then SlotState.closing else .closed) = .opened ∨ (if Spec.waits x then SlotState.closing else .closed)
    = .extended)
  split <;> simp

theorem State.lossNotice_noneAwaited (s : State) (n : LinkNo) : NoneAwaited n (s.lossNotice n) := by
  intro i opened awaits
  have noticed := s.lossNotice_slotAt n i
  rw [NoticedAs] at noticed
  simp only [slotAt, Prod.mk.injEq] at noticed
  split at noticed
  · by_cases all : Spec.allIn { s.slots.get i with contribs := (s.slots.get i).contribs.set n (some .lost) }
    · rw [(noticed.1 all).1] at opened
      exact Spec.closed_not_open _ _ opened
    · rw [(noticed.2 all).1] at awaits
      simp at awaits
  · next other =>
    rw [noticed.1] at opened awaits
    exact other ⟨opened, awaits⟩

/-! ### The lookup of a granted frame and the notice of its link -/

/-- The notice of a link is delivered (R92). -/
def State.tellLoss (s : State) (n : LinkNo) : State := s.setFront n { s.front.get n with notice := .delivered }

theorem State.dropHeld_eq (s : State) (n : LinkNo) : s.dropHeld n = s.setFront n (s.decided { s.front.get n with held := none }) :=
  by
  rw [dropHeld, evalFront_eq, setFront_front, Bank.get_set_self]
  simp only [setFront, Bank.set_set]
  rfl

theorem State.tellLoss_dropHeld (s : State) (n : LinkNo) : (s.dropHeld n).tellLoss n = (s.tellLoss n).dropHeld n := by
  have front : (s.tellLoss n).front.get n = { s.front.get n with notice := .delivered } := Bank.get_set_self _ _ _
  have decided := s.decided_notice { s.front.get n with held := none } .delivered
  rw [dropHeld_eq, dropHeld_eq, front, tellLoss, setFront_front, Bank.get_set_self, ← decided]
  simp only [tellLoss, setFront, Bank.set_set]
  rfl

theorem State.tellLoss_evalTiming (s : State) (n : LinkNo) : s.evalTiming.tellLoss n = (s.tellLoss n).evalTiming := by
  rw [evalTiming, evalTiming]
  exact apply_ite (fun t : State => t.tellLoss n) _ _ _

theorem State.tellLoss_grantPark (s : State) (n : LinkNo) (frame : List Word) (urgent : Bool) :
    (s.grantPark n frame urgent).tellLoss n = (s.tellLoss n).grantPark n frame urgent := by
  have started : (s.startPark n frame urgent).tellLoss n = (s.tellLoss n).startPark n frame urgent :=
    congrArg (fun t : State => { t with job := (s.startPark n frame urgent).job }) (State.tellLoss_evalTiming _ n)
  have orphans : (s.tellLoss n).orphans = s.orphans := rfl
  have free : (s.tellLoss n).freeCount = s.freeCount := rfl
  rw [grantPark, grantPark, orphans, free]
  split
  · exact State.tellLoss_dropHeld _ n
  · split
    · exact State.tellLoss_dropHeld _ n
    · exact started

theorem State.tellLoss_grantFrame (s : State) (n : LinkNo) (frame : List Word) (urgent : Bool) :
    (s.grantFrame n frame urgent).tellLoss n = (s.tellLoss n).grantFrame n frame urgent := by
  have found : (s.tellLoss n).slotOfTag (frame.getD 1 0) = s.slotOfTag (frame.getD 1 0) := rfl
  rw [grantFrame, grantFrame, found]
  cases s.slotOfTag (frame.getD 1 0) with
  | some i =>
    have slots : (s.tellLoss n).slots = s.slots := rfl
    dsimp only
    rw [grantAtSlot, grantAtSlot, slots]
    dsimp only
    cases (s.slots.get i).find n with
    | condition => rfl
    | extra => rfl
    | duplicate => exact State.tellLoss_dropHeld _ n
    | late => exact State.tellLoss_dropHeld _ n
  | none =>
    dsimp only
    have class_ : classify (s.tellLoss n).runState (s.tellLoss n).newestTag (s.tellLoss n).general.lookAhead (frame.getD 1 0) =
        classify s.runState s.newestTag s.general.lookAhead (frame.getD 1 0) := rfl
    rw [grantUnmatched, grantUnmatched, class_]
    cases classify s.runState s.newestTag s.general.lookAhead (frame.getD 1 0) with
    | park => exact s.tellLoss_grantPark n frame urgent
    | late => exact State.tellLoss_dropHeld _ n
    | stray => exact State.tellLoss_dropHeld _ n

/-- What a grant keeps of its link and of the rotation, and of a link that no slot awaits. -/
structure GrantKeeps (n : LinkNo) (s t : State) : Prop where
  notice : (t.front.get n).notice = (s.front.get n).notice
  waiting : (t.front.get n).waiting = (s.front.get n).waiting
  rotation : t.rotation = s.rotation
  awaited : NoneAwaited n s → NoneAwaited n t

theorem GrantKeeps.trans (first : GrantKeeps n s t) (second : GrantKeeps n t u) : GrantKeeps n s u where
  notice := second.notice.trans first.notice
  waiting := second.waiting.trans first.waiting
  rotation := second.rotation.trans first.rotation
  awaited k := second.awaited (first.awaited k)

/-- A slot that changes, and does not come to await the link. -/
theorem GrantKeeps.of_slot {i : SlotNo} {x : Slot} (front : t.front = s.front) (slots : t.slots = s.slots.set i x)
    (rotation : t.rotation = s.rotation) (state : x.state = (s.slots.get i).state)
    (contribs : x.contribs.get n = some .awaited → (s.slots.get i).contribs.get n = some .awaited) : GrantKeeps n s t where
  notice := by rw [front]
  waiting := by rw [front]
  rotation := rotation
  awaited k j opened awaits := by
    rw [slots, Bank.get_set] at opened awaits
    split at opened
    · next same =>
      rw [if_pos same] at awaits
      rw [Spec.isOpen, state] at opened
      exact k i opened (contribs awaits)
    · next other =>
      rw [if_neg other] at awaits
      exact k j opened awaits

theorem GrantKeeps.dropHeld (s : State) (n : LinkNo) : GrantKeeps n s (s.dropHeld n) := by
  obtain ⟨notice, waiting, -⟩ := s.decided_waiting { s.front.get n with held := none }
  rw [State.dropHeld_eq]
  refine ⟨?_, ?_, rfl, id⟩
  · rw [State.setFront_front, Bank.get_set_self, notice]
  · rw [State.setFront_front, Bank.get_set_self, waiting]

/-- A change of what no link and no slot shows. -/
theorem GrantKeeps.of_eq (front : t.front = s.front) (slots : t.slots = s.slots) (rotation : t.rotation = s.rotation) :
    GrantKeeps n s t := by
  refine ⟨by rw [front], by rw [front], rotation, fun k => ?_⟩
  rwa [NoneAwaited, slots]

theorem State.grantAtSlot_keeps (s : State) (n : LinkNo) (frame : List Word) (urgent : Bool) (i : SlotNo) :
    GrantKeeps n s (s.grantAtSlot n frame urgent i) := by
  rw [grantAtSlot]
  dsimp only
  cases (s.slots.get i).find n with
  | condition => exact GrantKeeps.of_slot (i := i) rfl rfl rfl rfl fun e => by simp at e
  | extra => exact GrantKeeps.of_slot (i := i) rfl rfl rfl rfl id
  | duplicate =>
    have counted : GrantKeeps n s (s.duplicateAtSlot i n) := GrantKeeps.of_slot (i := i) rfl rfl rfl rfl id
    exact counted.trans (GrantKeeps.dropHeld _ n)
  | late =>
    have counted : GrantKeeps n s (s.lateAtSlot i n) := GrantKeeps.of_slot (i := i) rfl rfl rfl rfl id
    exact counted.trans (GrantKeeps.dropHeld _ n)

theorem State.grantUnmatched_keeps (s : State) (n : LinkNo) (frame : List Word) (urgent : Bool) :
    GrantKeeps n s (s.grantUnmatched n frame urgent) := by
  have dropped (t : State) (front : t.front = s.front) (slots : t.slots = s.slots) (rotation : t.rotation = s.rotation) :
      GrantKeeps n s (t.dropHeld n) := (GrantKeeps.of_eq front slots rotation).trans (GrantKeeps.dropHeld t n)
  rw [grantUnmatched]
  split
  · rw [grantPark]
    split
    · exact dropped _ rfl rfl rfl
    · split
      · exact dropped _ rfl rfl rfl
      · rw [startPark, takeCells_frame]
        exact GrantKeeps.of_eq rfl rfl rfl
  · exact dropped _ rfl rfl rfl
  · exact dropped _ rfl rfl rfl

theorem State.grantFrame_keeps (s : State) (n : LinkNo) (frame : List Word) (urgent : Bool) :
    GrantKeeps n s (s.grantFrame n frame urgent) := by
  rw [grantFrame]
  split
  · exact s.grantAtSlot_keeps n frame urgent _
  · exact s.grantUnmatched_keeps n frame urgent

/-! ### The grant of the last waiting frame (R92) -/

/-- A pending notice of a link without waiting frames is delivered. -/
theorem State.grantNotice_of_due (due : (s.front.get n).noticeDue) : s.grantNotice n = (s.tellLoss n).lossNotice n := if_pos due

theorem State.lossNotice_front (s : State) (n m : LinkNo) : (s.lossNotice n).front.get m = s.front.get m := by rw [lossNotice_frame]

/-- A grant in which the notice comes first, and one in which it comes second. -/
theorem exec_arbiterGrant_last (free : s.job = none) (chosen : s.chosen = some n.castSucc)
    (last : (s.front.get n).waiting = [frame])
    (pending : (s.front.get n).notice = .pending) (dark : (s.front.get n).rx.link ≠ .live) :
    exec (.arbiterGrant true) s =
        .next ((((Spec.granted s n frame []).tellLoss n).lossNotice n).grantFrame n frame (Spec.anyUrgent s))
      ∧ exec (.arbiterGrant false) s =
        .next ((((Spec.granted s n frame []).tellLoss n).grantFrame n frame (Spec.anyUrgent s)).lossNotice n) := by
  have due : ((Spec.granted s n frame []).front.get n).noticeDue := by
    rw [Spec.granted, State.setFront_front, Bank.get_set_self]
    exact ⟨pending, dark, rfl⟩
  have first : { s with rotation := n.castSucc }.grantFront n true =
      ((Spec.granted s n frame []).grantNotice n).grantFrame n frame s.anyUrgent := by
    rw [State.grantFront, last]; rfl
  have second : { s with rotation := n.castSucc }.grantFront n false =
      ((Spec.granted s n frame []).grantFrame n frame s.anyUrgent).grantNotice n := by
    rw [State.grantFront, last]; rfl
  have executed (b : Bool) : exec (.arbiterGrant b) s = .next ({ s with rotation := n.castSucc }.grantFront n b) := by
    rw [← s.grant_castSucc, ← State.arbiterGrant_of_chosen free chosen]; rfl
  refine ⟨?_, ?_⟩
  · rw [executed, first, State.grantNotice_of_due due, s.anyUrgent_eq]
  · rw [executed, second, State.grantNotice_of_due ((State.grantFrame_noticeDue _ n frame s.anyUrgent).2 due),
      State.tellLoss_grantFrame,
      s.anyUrgent_eq]

/-- The arbiter reads of a link only whether it requests and whether it is urgent. -/
theorem State.chosen_congr (rotation : s.rotation = t.rotation) (adoption : s.adoption = t.adoption)
    (requests : ∀ m, (s.front.get m).requests = (t.front.get m).requests)
    (urgent : ∀ m, (s.front.get m).urgent = (t.front.get m).urgent) :
      s.chosen = t.chosen ∧ Spec.anyUrgent s = Spec.anyUrgent t := by
  have asks : s.requesting = t.requesting := by
    funext r
    rw [requesting, requesting, adoption]
    exact dite_congr rfl (fun front => requests ⟨r.val, front⟩) fun _ => rfl
  have hurries : s.urgentRequester = t.urgentRequester := by
    funext r
    rw [urgentRequester, urgentRequester]
    exact dite_congr rfl (fun front => urgent ⟨r.val, front⟩) fun _ => rfl
  refine ⟨by rw [chosen, chosen, rotation, asks, hurries], ?_⟩
  rw [← anyUrgent_eq, ← anyUrgent_eq, Bool.eq_iff_iff, anyUrgent, anyUrgent, Bank.any_iff, Bank.any_iff]
  exact exists_congr fun m => by rw [urgent m]

theorem State.tellLoss_front (s : State) (n m : LinkNo) :
    ((s.tellLoss n).front.get m).requests = (s.front.get m).requests ∧ ((s.tellLoss n).front.get m).urgent
      = (s.front.get m).urgent := by
  rw [tellLoss, setFront_front, Bank.get_set]
  split
  · next same => rw [same]; exact ⟨rfl, rfl⟩
  · exact ⟨rfl, rfl⟩

/-- A granted frame of a link whose notice has been delivered before. -/
theorem State.granted_lossNotice (s : State) (n : LinkNo) (frame : List Word) :
    Spec.granted ((s.tellLoss n).lossNotice n) n frame [] = ((Spec.granted s n frame []).tellLoss n).lossNotice n := by
  obtain ⟨slots, deadlines⟩ := State.lossNotice_congr (s := s.tellLoss n) (t := (Spec.granted s n frame []).tellLoss n) rfl rfl n
  have before := (s.tellLoss n).lossNotice_frame n
  have after := ((Spec.granted s n frame []).tellLoss n).lossNotice_frame n
  generalize (s.tellLoss n).lossNotice n = a at before slots deadlines ⊢
  generalize ((Spec.granted s n frame []).tellLoss n).lossNotice n = b at after slots deadlines ⊢
  rw [after, ← slots, ← deadlines, Spec.granted, before]
  simp only [Spec.granted, tellLoss, setFront, Bank.get_set_self, Bank.set_set]

theorem State.granted_tellLoss (s : State) (n : LinkNo) (frame : List Word) :
    Spec.granted (s.tellLoss n) n frame [] = (Spec.granted s n frame []).tellLoss n := by
  simp only [Spec.granted, tellLoss, setFront, Bank.get_set_self, Bank.set_set]

/-- Where the notice comes to a link, it is no longer pending, and the arbiter chooses as before. -/
theorem State.grants_tellLoss (free : s.job = none) (chosen : s.chosen = some n.castSucc)
    (last : (s.front.get n).waiting = [frame]) :
    Spec.grants (s.tellLoss n) n frame [] ∧ Spec.anyUrgent (s.tellLoss n) = Spec.anyUrgent s := by
  obtain ⟨same, urgent⟩ := State.chosen_congr (s := s.tellLoss n) (t := s) rfl rfl (fun m => (s.tellLoss_front n m).1)
    fun m => (s.tellLoss_front n m).2
  have front : (s.tellLoss n).front.get n = { s.front.get n with notice := .delivered } := Bank.get_set_self _ _ _
  exact ⟨⟨free, same.trans chosen, by rw [front]; exact last, .inl (by rw [front]; exact nofun)⟩, urgent⟩

theorem State.grants_lossNotice (h : Spec.grants s n frame []) :
    Spec.grants (s.lossNotice n) n frame [] ∧ Spec.anyUrgent (s.lossNotice n) = Spec.anyUrgent s := by
  have kept := s.lossNotice_frame n
  generalize s.lossNotice n = w at kept ⊢
  rw [kept]
  obtain ⟨chosen, urgent⟩ := State.chosen_congr (s := { s with slots := w.slots, deadlines := w.deadlines }) (t := s) rfl rfl
    (fun _ => rfl) fun _ => rfl
  obtain ⟨free, here, last, quiet⟩ := h
  exact ⟨⟨free, chosen.trans here, last, quiet⟩, urgent⟩

/-- The link once its last waiting frame is granted and its notice delivered. -/
theorem State.granted_tellLoss_front (s : State) (n : LinkNo) (frame : List Word) :
    (((Spec.granted s n frame []).tellLoss n).front.get n).notice = .delivered
      ∧ (((Spec.granted s n frame []).tellLoss n).front.get n).waiting = [] := by
  rw [tellLoss, setFront_front, Bank.get_set_self, Spec.granted, setFront_front, Bank.get_set_self]
  exact ⟨rfl, rfl⟩

/-- Settles O38: the notice and the lookup in the two orders. -/
theorem lastGrantDeliversThePendingNotice : Obligations.LastGrantDeliversThePendingNotice := by
  intro s n frame delivered free chosen last pending dark
  obtain ⟨first, second⟩ := exec_arbiterGrant_last free chosen last pending dark
  obtain ⟨grants, urgent⟩ := State.grants_tellLoss free chosen last
  obtain ⟨grants', urgent'⟩ := State.grants_lossNotice grants
  obtain ⟨notice, waiting⟩ := s.granted_tellLoss_front n frame
  refine ⟨⟨_, first, ?_⟩, ⟨_, ?_, second⟩, fun b => ?_⟩
  · exact (exec_arbiterGrant_of_grants grants' true).trans (by rw [s.granted_lossNotice, urgent', urgent])
  · exact (exec_arbiterGrant_of_grants grants false).trans (by rw [s.granted_tellLoss, urgent])
  · cases b with
    | true =>
      have kept := State.grantFrame_keeps (((Spec.granted s n frame []).tellLoss n).lossNotice n) n frame (Spec.anyUrgent s)
      refine ⟨_, first, ?_, ?_, ?_, kept.awaited (State.lossNotice_noneAwaited _ n)⟩
      · rw [kept.notice, State.lossNotice_front, notice]
      · rw [kept.waiting, State.lossNotice_front, waiting]
      · rw [kept.rotation, State.lossNotice_frame]; rfl
    | false =>
      have kept := State.grantFrame_keeps ((Spec.granted s n frame []).tellLoss n) n frame (Spec.anyUrgent s)
      refine ⟨_, second, ?_, ?_, ?_, State.lossNotice_noneAwaited _ n⟩
      · rw [State.lossNotice_front, kept.notice, notice]
      · rw [State.lossNotice_front, kept.waiting, waiting]
      · rw [State.lossNotice_frame]
        exact kept.rotation

end Sys2Proof.Machine
end

section
/-! THEOREMS. The words of a chain in the store (R136, R137), and the ends of the jobs (O44, O45). -/

namespace Sys2Proof.Machine

open Sys2Proof.Safety

variable {s t u v : State} {cells : List Nat} {words : List Word} {start k : Nat}

/-! ### The words of a chain (R136) -/

theorem Memory.read_writeAll_ne {m : Memory Word} {l : List (Nat × Word)} {a : Nat} (apart : ∀ p ∈ l, p.1 ≠ a) :
    Memory.read 0 (Memory.writeAll 0 m l) a = Memory.read 0 m a := by
  induction l generalizing m with
  | nil => rfl
  | cons p rest ih =>
    have first : a ≠ p.1 := (apart p List.mem_cons_self).symm
    exact (ih fun q mem => apart q (List.mem_cons_of_mem _ mem)).trans (Memory.read_write_ne m p.2 first)

theorem Memory.read_writeAll_mem {m : Memory Word} {l : List (Nat × Word)} {a : Nat} {w : Word} (canonical : Memory.wf 0 m = true)
    (once : (l.map Prod.fst).Nodup) (mem : (a, w) ∈ l) : Memory.read 0 (Memory.writeAll 0 m l) a = w := by
  induction l generalizing m with
  | nil => cases mem
  | cons p rest ih =>
    obtain ⟨fresh, once⟩ := List.nodup_cons.1 once
    rcases List.mem_cons.1 mem with rfl | later
    · have kept : ∀ q ∈ rest, q.1 ≠ a := fun q later same => fresh (List.mem_map.2 ⟨q, later, same⟩)
      exact (Memory.read_writeAll_ne kept).trans (Memory.read_write_self w canonical)
    · exact ih (Memory.wf_write _ _ canonical) once later

/-- The places of the words of a chain are apart. -/
theorem wordPlace_injective (apart : cells.Nodup) {j k : Nat} (low : j < 64 * cells.length) (high : k < 64 * cells.length)
    (same : Spec.wordPlace cells j = Spec.wordPlace cells k) : j = k := by
  have inside {i : Nat} (h : i < 64 * cells.length) : i / 64 < cells.length := by omega
  rw [Spec.wordPlace, Spec.wordPlace, List.getD_eq_getElem _ _ (inside low), List.getD_eq_getElem _ _ (inside high)] at same
  have cell : cells[j / 64] = cells[k / 64] := by omega
  have place := (List.Nodup.getElem_inj_iff apart).1 cell
  omega

/-- The writes of a chain. -/
def chainWrites (cells : List Nat) (start : Nat) (words : List Word) : List (Nat × Word) :=
  words.zipIdx.map fun p => (Spec.wordPlace cells (start + p.2), p.1)

theorem Spec.chainWritten_eq (s : State) (cells : List Nat) (start : Nat) (words : List Word) :
    Spec.chainWritten s cells start words = s.writeChain cells start words := by
  rw [Spec.chainWritten, State.writeChain, Memory.writeAll, List.foldl_map]
  rfl

theorem State.writeChain_store (s : State) (cells : List Nat) (start : Nat) (words : List Word) :
    (s.writeChain cells start words).store = Memory.writeAll 0 s.store (chainWrites cells start words) := rfl

theorem mem_chainWrites {p : Nat × Word} :
    p ∈ chainWrites cells start words ↔ ∃ k, ∃ h : k < words.length, p = (Spec.wordPlace cells (start + k), words[k]) := by
  rw [chainWrites, List.mem_map]
  constructor
  · rintro ⟨⟨w, k⟩, mem, rfl⟩
    obtain ⟨small, word⟩ := List.mem_zipIdx' mem
    exact ⟨k, small, by rw [word]⟩
  · rintro ⟨k, small, rfl⟩
    exact ⟨(words[k], k), List.mk_mem_zipIdx_iff_getElem?.2 (List.getElem?_eq_getElem small), rfl⟩

theorem chainWrites_once (apart : cells.Nodup) (room : start + words.length ≤ 64 * cells.length) :
    ((chainWrites cells start words).map Prod.fst).Nodup := by
  have places : (chainWrites cells start words).map Prod.fst = (List.range words.length).map fun k => Spec.wordPlace cells
    (start + k) := by
    refine List.ext_getElem (by simp [chainWrites]) fun k small _ => ?_
    simp [chainWrites]
  rw [places]
  refine List.Nodup.map_on (fun j small k smaller same => ?_) List.nodup_range
  rw [List.mem_range] at small smaller
  have := wordPlace_injective apart (by omega) (by omega) same
  omega

/-- A word written to a chain is read back (R136, R137). -/
theorem State.read_writeChain_in (canonical : Memory.wf 0 s.store = true) (apart : cells.Nodup)
    (room : start + words.length ≤ 64 * cells.length) (small : k < words.length) :
    Memory.read 0 (s.writeChain cells start words).store (Spec.wordPlace cells (start + k)) = words[k] := by
  rw [writeChain_store]
  exact Memory.read_writeAll_mem canonical (chainWrites_once apart room) (mem_chainWrites.2 ⟨k, small, rfl⟩)

/-- The rest of the store stays. -/
theorem State.read_writeChain_out {a : Nat} (out : ∀ k < words.length, Spec.wordPlace cells (start + k) ≠ a) :
    Memory.read 0 (s.writeChain cells start words).store a = Memory.read 0 s.store a := by
  rw [writeChain_store]
  refine Memory.read_writeAll_ne fun p mem => ?_
  obtain ⟨k, small, rfl⟩ := mem_chainWrites.1 mem
  exact out k small

/-- The words written to a chain from its start are its words. -/
theorem State.chainWords_writeChain (canonical : Memory.wf 0 s.store = true) (apart : cells.Nodup)
    (room : words.length ≤ 64 * cells.length) :
    Spec.chainWords (s.writeChain cells 0 words) cells words.length = words := by
  refine List.ext_getElem (by simp [Spec.chainWords]) fun k small _ => ?_
  have inside : k < words.length := by simpa [Spec.chainWords] using small
  have back := State.read_writeChain_in (s := s) (start := 0) canonical apart (by omega) inside
  rw [Nat.zero_add] at back
  simpa [Spec.chainWords] using back

/-! ### The end of a conditioning job (R15, R16, R51, R87, R114) -/

theorem State.sourceWords_eq (s : State) (j : Job) : s.sourceWords j = Spec.sourceOf s j := by
  rw [sourceWords, Spec.sourceOf]
  cases j.source <;> rfl

theorem State.jobFinished_iff {j : Job} : s.jobFinished j = true ↔ j.stopped = true ∨ (Spec.sourceOf s j).length ≤ j.position := by
  rw [jobFinished, sourceWords_eq, Bool.or_eq_true, decide_eq_true_iff]

theorem State.attachCheck_eq (s : State) (i : SlotNo) :
    s.attachCheck i =
      if Spec.isOpen (s.slots.get i) ∧ Spec.allIn (s.slots.get i) then Spec.closes s i .allIn
      else if (s.slots.get i).state = .closing ∧ ¬ Spec.waits (s.slots.get i) then
        s.setSlot i { s.slots.get i with state := .closed }
      else s := by
  rw [attachCheck]
  dsimp only
  by_cases closing : (s.slots.get i).state = .closing
  · have shut : ¬ Spec.isOpen (s.slots.get i) := by rw [Spec.isOpen, closing]; exact fun e => e.elim nofun nofun
    have unmet : ¬ (Spec.isOpen (s.slots.get i) ∧ Spec.allIn (s.slots.get i)) := fun both => shut both.1
    rw [if_pos closing, if_neg unmet]
    by_cases busy : Spec.waits (s.slots.get i)
    · rw [if_pos ((Slot.busy_iff _).2 busy), if_neg fun both => both.2 busy]
    · rw [if_neg fun yes => busy ((Slot.busy_iff _).1 yes), if_pos ⟨closing, busy⟩]
  · rw [if_neg closing, allInCheck_eq, Spec.tested]
    exact if_congr Iff.rfl rfl (if_neg fun both => closing both.1).symm

theorem State.conditioningJobEnd_condition {j : Job} {i : SlotNo} (job : s.job = some j) (conditions : j.outcome = .condition i) :
    s.conditioningJobEnd = if s.jobFinished j then s.endCondition j i else s := by
  rw [conditioningJobEnd, job]
  dsimp only
  rw [conditions]

theorem State.endCondition_fifo {j : Job} {i : SlotNo} (fifo : j.source = .fifo) :
    s.endCondition j i =
      ((({ s.setSlot i ((s.slots.get i).attach j) with job := none }.returnCells ((s.slots.get i).displaced j.link)).attachCheck
        i).dropHeld
        j.link).bump (.link .fragmentsConditioned j.link) := by
  rw [endCondition]
  dsimp only
  rw [removeSource, fifo]

theorem State.endCondition_copy {j : Job} {i : SlotNo} {w : Nat} (copy : j.source = .copy cells w) :
    s.endCondition j i =
      ((({ s.setSlot i ((s.slots.get i).attach j) with job := none }.returnCells ((s.slots.get i).displaced j.link)).attachCheck
        i).returnCells cells).bump (.link .fragmentsConditioned j.link) := by
  rw [endCondition]
  dsimp only
  rw [removeSource, copy]

/-- Settles O44. -/
theorem conditioningJobsEnd : Obligations.ConditioningJobsEnd := by
  refine ⟨fun s idle => congrArg Host.Outcome.next ?_, ?_⟩
  · obtain none | ⟨j, job, park | ⟨going, short⟩⟩ := idle
    · rw [State.conditioningJobEnd, none]
    · rw [State.conditioningJobEnd, job]
      dsimp only
      rw [park]
    · rw [State.conditioningJobEnd, job]
      dsimp only
      split
      · rfl
      · refine if_neg fun finished => (State.jobFinished_iff.1 finished).elim (fun stopped => ?_) (Nat.not_le.2 short)
        rw [going] at stopped; cases stopped
  · intro s j i n x record y replaced u v job conditions finished
    have attached : x.attach j = y := rfl
    have back : { s.setSlot i ((s.slots.get i).attach j) with job := none }.returnCells ((s.slots.get i).displaced j.link) = u :=
      rfl
    have slot : u.slots.get i = y := by
      rw [← back, State.returnCells_frame]
      exact Bank.get_set_self _ _ _
    have checked : u.attachCheck i = v := by rw [State.attachCheck_eq, slot]
    have ended : exec .conditioningJobEnd s = .next (s.endCondition j i) :=
      congrArg Host.Outcome.next ((State.conditioningJobEnd_condition job conditions).trans
        (if_pos (State.jobFinished_iff.2 finished)))
    refine ⟨fun fifo => ?_, fun cells w copy => ?_⟩
    · rw [ended, State.endCondition_fifo fifo, back, checked]; rfl
    · rw [ended, State.endCondition_copy copy, back, checked]; rfl

/-! ### The end of a park job (R45, R47, R49) -/

theorem Spec.adopts_waited {i : SlotNo} {o : Orphan}
    (waited : (v.slots.get i).contribs.get o.link = some .awaited ∨ (v.slots.get i).contribs.get o.link = some .lost
      ∨ (v.slots.get i).contribs.get o.link = some .absent) :
    Spec.adopts i v o =
      { v.setSlot i { v.slots.get i with contribs := (v.slots.get i).contribs.set o.link (some .queued) } with
        adoption := v.adoption ++ [o.entry i true] }.bump (.part .orphansAdopted) := if_pos waited

theorem Spec.adopts_outside {i : SlotNo} {o : Orphan} (outside : (v.slots.get i).contribs.get o.link = none) :
    Spec.adopts i v o = { v with adoption := v.adoption ++ [o.entry i false] }.bump (.part .orphansAdopted) :=
  (if_neg (by simp [outside])).trans (if_pos outside)

theorem Spec.adopts_known {i : SlotNo} {o : Orphan}
    (known : (v.slots.get i).contribs.get o.link = some .queued ∨ (v.slots.get i).contribs.get o.link = some .conditioning
      ∨ (v.slots.get i).contribs.get o.link = some .arrived) :
    Spec.adopts i v o = Spec.cellsBack (Spec.duplicateAt v i o.link) o.cells := by
  refine (if_neg ?_).trans (if_neg ?_) <;>
  · obtain e | e | e := known <;> simp [e]

theorem State.placeCopy_unmatched {o : Orphan} (alone : Spec.unmatched s o.tag) :
    s.placeCopy o =
      if s.runState = .draining then Spec.cellsBack (Spec.stray s o.link) o.cells
      else { s with orphans := s.orphans ++ [o] }.bump (.link .parked o.link) := by
  rw [placeCopy, (s.slotOfTag_none _).2 alone]
  rfl

theorem State.placeCopy_matching {o : Orphan} {i : SlotNo} (carries : Spec.matching s o.tag i) :
    s.placeCopy o =
      if (s.slots.get i).isOpen then Spec.adopts i (s.bump (.link .parked o.link)) o
      else Spec.cellsBack (Spec.lateAt (s.bump (.link .parked o.link)) i o.link) o.cells := by
  rw [placeCopy, slotOfTag_of_matching carries]
  dsimp only
  rw [handOver, adoptInto_eq]
  rfl

theorem State.parkJobEnd_park {j : Job} (job : s.job = some j) (park : j.outcome = .park) : s.parkJobEnd = s.endPark j := by
  rw [parkJobEnd, job]
  dsimp only
  rw [park]

/-- Settles O45. -/
theorem parkJobsEnd : Obligations.ParkJobsEnd := by
  refine ⟨fun s idle => congrArg Host.Outcome.next ?_, ?_⟩
  · obtain none | ⟨j, i, job, conditions⟩ := idle
    · rw [State.parkJobEnd, none]
    · rw [State.parkJobEnd, job]
      dsimp only
      rw [conditions]
  · intro s j n words v o entry parked job park fifo
    have source : s.sourceWords j = words := by rw [State.sourceWords, fifo]
    have ended : exec .parkJobEnd s = .next (v.placeCopy o) := by
      refine congrArg Host.Outcome.next ((State.parkJobEnd_park job park).trans ?_)
      rw [State.endPark, source, ← Spec.chainWritten_eq]
      rfl
    have frame : v = { s with store := (Spec.chainWritten s j.cells 0 words).store, job := none, front := v.front } :=
      State.evalFront_frame _ n
    have slots : v.slots = s.slots := by rw [frame]
    have run : v.runState = s.runState := by rw [frame]
    have queue : parked.adoption = s.adoption := (show v.adoption = s.adoption by rw [frame])
    have list : v.orphans = s.orphans := by rw [frame]
    clear_value v
    refine ⟨fun alone running => ?_, fun alone draining => ?_, fun i carries => ?_, fun canonical apart room => ?_⟩
    · have alone : Spec.unmatched v o.tag := by rw [Spec.unmatched, slots]; exact alone
      rw [ended, State.placeCopy_unmatched alone, if_neg (run ▸ running), list]
      rfl
    · have alone : Spec.unmatched v o.tag := by rw [Spec.unmatched, slots]; exact alone
      rw [ended, State.placeCopy_unmatched alone, if_pos (run.trans draining)]
    · have carries : Spec.matching v o.tag i := by rw [Spec.matching, slots]; exact carries
      intro x
      have slot : v.slots.get i = x := by rw [slots]
      have slot' : parked.slots.get i = x := slot
      have met := State.placeCopy_matching carries
      rw [slot] at met
      refine ⟨fun shut => ?_, fun opened waited => ?_, fun opened known => ?_, fun opened outside => ?_⟩
      · rw [ended, met, if_neg fun yes => shut ((Slot.isOpen_iff _).1 yes)]
      · rw [ended, met, if_pos ((Slot.isOpen_iff _).2 opened), Spec.adopts_waited (v := parked) (slot' ▸ waited), slot', queue]
        rfl
      · rw [ended, met, if_pos ((Slot.isOpen_iff _).2 opened), Spec.adopts_known (v := parked) (slot' ▸ known)]
      · rw [ended, met, if_pos ((Slot.isOpen_iff _).2 opened), Spec.adopts_outside (v := parked) (slot' ▸ outside), queue]
        rfl
    · obtain ⟨-, -, store, -⟩ := canonical
      rw [Spec.chainWritten_eq]
      exact State.chainWords_writeChain store apart room

end Sys2Proof.Machine
end

section
/-! THEOREMS. Suppression: the runs of a burst, the spans of the kept ones, and their merging into pulses (R123, R124; O43). -/

namespace Sys2Proof.Machine

/-! ### Runs (R123) -/

/-- A maximal stretch of indices that meet a test, as first and last index. -/
structure IsRun (P : Nat → Prop) (r : Nat × Nat) : Prop where
  ordered : r.1 ≤ r.2
  inside : ∀ k, r.1 ≤ k → k ≤ r.2 → P k
  before : r.1 = 0 ∨ ¬ P (r.1 - 1)
  after : ¬ P (r.2 + 1)

/-- What `runsOf` has read before index `i`: no stretch reaches `i`, or one from `a` on does. -/
def OpenRun (P : Nat → Prop) (i : Nat) : Option Nat → Prop
  | none => i = 0 ∨ ¬ P (i - 1)
  | some a => a < i ∧ (∀ k, a ≤ k → k < i → P k) ∧ (a = 0 ∨ ¬ P (a - 1))

variable {P : Nat → Prop} {i a : Nat} {r : Nat × Nat}

/-- The run that an open stretch becomes where it ends. -/
theorem OpenRun.run_iff (reached : OpenRun P i (some a)) (ends : ¬ P i) : IsRun P r ∧ a ≤ r.1 ∧ r.1 < i + 1 ↔ r = (a, i - 1) := by
  obtain ⟨low, inside, before⟩ := reached
  constructor
  · rintro ⟨run, above, below⟩
    have first : r.1 < i := by
      refine lt_of_le_of_ne (by omega) fun same => ends ?_
      rw [← same]; exact run.inside r.1 le_rfl run.ordered
    have start : r.1 = a := by
      by_contra other
      exact run.before.elim (by omega) fun no => no (inside _ (by omega) (by omega))
    have last : r.2 < i := by
      by_contra beyond
      exact ends (run.inside i first.le (by omega))
    have stop : r.2 = i - 1 := by
      by_contra other
      exact run.after (inside _ (by have := run.ordered; omega) (by omega))
    exact Prod.ext start stop
  · rintro rfl
    refine ⟨⟨by omega, fun k lower upper => inside k lower (by omega), before, ?_⟩, le_rfl, by omega⟩
    rwa [show (i - 1) + 1 = i by omega]

/-- The runs found are the maximal stretches, in order and apart. -/
theorem runsOf_spec {rest : List Bool} {reached : Option Nat} (reads : ∀ k, P (i + k) ↔ rest[k]? = some true)
    (before : OpenRun P i reached) :
    (∀ r, r ∈ runsOf i reached rest ↔ IsRun P r ∧ reached.getD i ≤ r.1)
      ∧ (runsOf i reached rest).Pairwise fun p q => p.2 + 1 < q.1 := by
  induction rest generalizing i reached with
  | nil =>
    have never (k : Nat) (beyond : i ≤ k) : ¬ P k := by
      have none := reads (k - i)
      rw [show i + (k - i) = k by omega] at none
      simp [none]
    cases reached with
    | none =>
      refine ⟨fun r => ⟨fun mem => absurd mem List.not_mem_nil, fun ⟨run, beyond⟩ => ?_⟩, List.Pairwise.nil⟩
      exact absurd (run.inside r.1 le_rfl run.ordered) (never _ beyond)
    | some a =>
      refine ⟨fun r => ?_, List.pairwise_singleton _ _⟩
      rw [runsOf, List.mem_singleton, ← before.run_iff (never i le_rfl)]
      refine ⟨fun ⟨run, low, _⟩ => ⟨run, low⟩, fun ⟨run, low⟩ => ⟨run, low, ?_⟩⟩
      by_contra beyond
      exact never r.1 (by omega) (run.inside r.1 le_rfl run.ordered)
  | cons b rest ih =>
    have later (k : Nat) : P (i + 1 + k) ↔ rest[k]? = some true := by
      rw [show i + 1 + k = i + (k + 1) by omega, reads, List.getElem?_cons_succ]
    have here : P i ↔ b = true := by simpa using reads 0
    cases b with
    | true =>
      have now : P i := here.2 rfl
      cases reached with
      | none =>
        have started : OpenRun P (i + 1) (some i) :=
          ⟨Nat.lt_succ_self i, fun k low high => by rwa [show k = i by omega], before⟩
        exact ih later started
      | some a =>
        obtain ⟨low, inside, start⟩ := before
        refine ih later ⟨by omega, fun k lower upper => ?_, start⟩
        by_cases same : k = i
        · rwa [same]
        · exact inside k lower (by omega)
    | false =>
      have not_now : ¬ P i := fun yes => Bool.noConfusion (here.1 yes)
      obtain ⟨members, apart⟩ := ih (reached := none) later (.inr not_now)
      simp only [Option.getD_none] at members
      cases reached with
      | none =>
        refine ⟨fun r => (members r).trans (and_congr_right fun run => ⟨fun low => ?_, fun low => ?_⟩), apart⟩
        · exact le_trans (Nat.le_succ i) low
        · refine Nat.lt_of_le_of_ne low fun same => not_now ?_
          have inside := run.inside r.1 le_rfl run.ordered
          rwa [← show i = r.1 from same] at inside
      | some a =>
        have low : a < i := before.1
        refine ⟨fun r => ?_, List.pairwise_cons.2 ⟨fun q mem => ?_, apart⟩⟩
        · rw [runsOf, List.mem_cons, members, ← before.run_iff not_now]
          refine ⟨?_, fun ⟨run, above⟩ => ?_⟩
          · rintro (⟨run, above, -⟩ | ⟨run, above⟩)
            · exact ⟨run, above⟩
            · exact ⟨run, show a ≤ r.1 by omega⟩
          · exact (Nat.lt_or_ge r.1 (i + 1)).imp (fun below => ⟨run, above, below⟩) fun beyond => ⟨run, beyond⟩
        · have beyond := ((members q).1 mem).2
          show i - 1 + 1 < q.1
          omega

/-- Every stretch that meets a test, and that ends, lies in a run. -/
theorem exists_run {e n : Nat} (ordered : a ≤ e) (inside : ∀ k, a ≤ k → k ≤ e → P k) (bound : ∀ k, n ≤ k → ¬ P k) :
    ∃ b f, IsRun P (b, f) ∧ b ≤ a ∧ e ≤ f := by
  classical
  have starts : ∃ b, ∀ k, b ≤ k → k ≤ e → P k := ⟨a, inside⟩
  have stops : ∃ f, ¬ P (e + f + 1) := ⟨n, bound _ (by omega)⟩
  refine ⟨Nat.find starts, e + Nat.find stops, ⟨?_, fun k low high => ?_, ?_, Nat.find_spec stops⟩, Nat.find_min' starts inside,
    by omega⟩
  · exact le_trans (Nat.find_min' starts inside) (by omega)
  · by_cases within : k ≤ e
    · exact Nat.find_spec starts k low within
    · have early := Nat.find_min stops (m := k - e - 1) (by omega)
      rw [not_not, show e + (k - e - 1) + 1 = k by omega] at early
      exact early
  · by_cases zero : Nat.find starts = 0
    · exact .inl zero
    · refine .inr fun yes => Nat.find_min starts (m := Nat.find starts - 1) (by omega) fun k low high => ?_
      by_cases same : k = Nat.find starts - 1
      · rwa [same]
      · exact Nat.find_spec starts k (by omega) high

/-! ### Merging (R124) -/

/-- An index lies in a span, or in a gap of no more than the merge gap between two. -/
def Covered (spans : List (Nat × Nat)) (gap k : Nat) : Prop :=
  ∃ p ∈ spans, ∃ q ∈ spans, (p.1 ≤ k ∧ k ≤ p.2) ∨ (p.2 < k ∧ k < q.1 ∧ q.1 ≤ p.2 + 1 + gap)

/-- A pulse is made of spans: it begins with one and ends with one, and its samples are covered. -/
structure MadeOf (spans : List (Nat × Nat)) (gap : Nat) (p : Nat × Nat) : Prop where
  ordered : p.1 ≤ p.2
  first : ∃ q ∈ spans, p.1 = q.1
  last : ∃ q ∈ spans, p.2 = q.2
  covered : ∀ k, p.1 ≤ k → k ≤ p.2 → Covered spans gap k

theorem MadeOf.of_mem {spans : List (Nat × Nat)} {gap : Nat} {p : Nat × Nat} (mem : p ∈ spans) (ordered : p.1 ≤ p.2) :
    MadeOf spans gap p :=
  ⟨ordered, ⟨p, mem, rfl⟩, ⟨p, mem, rfl⟩, fun _ low high => ⟨p, mem, p, mem, .inl ⟨low, high⟩⟩⟩

/-- A span no farther than the merge gap joins a pulse. -/
theorem MadeOf.join {spans : List (Nat × Nat)} {gap : Nat} {p q : Nat × Nat} (made : MadeOf spans gap p) (mem : q ∈ spans)
    (near : q.1 ≤ p.2 + 1 + gap) (longer : p.2 ≤ q.2) : MadeOf spans gap (p.1, q.2) := by
  obtain ⟨o, from_, last⟩ := made.last
  refine ⟨made.ordered.trans longer, made.first, ⟨q, mem, rfl⟩, fun k low high => ?_⟩
  by_cases old : k ≤ p.2
  · exact made.covered k low old
  · by_cases between : k < q.1
    · exact ⟨o, from_, q, mem, .inr ⟨by omega, between, by omega⟩⟩
    · exact ⟨q, mem, q, mem, .inl ⟨by omega, high⟩⟩

/-- Spans merged from a current pulse on: pulses made of spans, apart, in order, and none lost. -/
theorem mergeFrom_spec {spans : List (Nat × Nat)} {gap : Nat} {cur : Nat × Nat} {rest : List (Nat × Nat)} (sub : rest ⊆ spans)
    (ordered : ∀ p ∈ spans, p.1 ≤ p.2) (sorted : (cur :: rest).Pairwise fun p q => p.1 ≤ q.1 ∧ p.2 ≤ q.2)
      (made : MadeOf spans gap cur) :
    (∀ p ∈ mergeFrom gap cur rest, MadeOf spans gap p ∧ cur.1 ≤ p.1)
      ∧ (mergeFrom gap cur rest).Pairwise (fun p q => p.2 + 1 + gap < q.1)
      ∧ ∀ q ∈ cur :: rest, ∃ p ∈ mergeFrom gap cur rest, p.1 ≤ q.1 ∧ q.2 ≤ p.2 := by
  induction rest generalizing cur with
  | nil =>
    refine ⟨fun p mem => ?_, List.pairwise_singleton _ _, fun q mem => ⟨cur, List.mem_singleton_self _, ?_⟩⟩
    · rw [List.mem_singleton.1 mem]; exact ⟨made, le_rfl⟩
    · rw [List.mem_singleton.1 mem]; exact ⟨le_rfl, le_rfl⟩
  | cons sp rest ih =>
    obtain ⟨after, sorted⟩ := List.pairwise_cons.1 sorted
    obtain ⟨beyond, tail⟩ := List.pairwise_cons.1 sorted
    obtain ⟨first, longer⟩ := after sp List.mem_cons_self
    have mem : sp ∈ spans := sub List.mem_cons_self
    have sub' : rest ⊆ spans := fun q later => sub (List.mem_cons_of_mem _ later)
    rw [mergeFrom]
    split
    · next near =>
      have joined : ((cur.1, max cur.2 sp.2) : Nat × Nat) = (cur.1, sp.2) := by rw [max_eq_right longer]
      rw [joined]
      have sorted' : ((cur.1, sp.2) :: rest).Pairwise fun p q => p.1 ≤ q.1 ∧ p.2 ≤ q.2 :=
        List.pairwise_cons.2 ⟨fun q later => ⟨first.trans (beyond q later).1, (beyond q later).2⟩, tail⟩
      obtain ⟨all, apart, kept⟩ := ih sub' sorted' (made.join mem near longer)
      refine ⟨all, apart, fun q old => ?_⟩
      obtain ⟨p, from_, low, high⟩ := kept _ List.mem_cons_self
      rcases List.mem_cons.1 old with rfl | later
      · exact ⟨p, from_, low, longer.trans high⟩
      · rcases List.mem_cons.1 later with rfl | later
        · exact ⟨p, from_, low.trans first, high⟩
        · exact kept q (List.mem_cons_of_mem _ later)
    · next far =>
      obtain ⟨all, apart, kept⟩ := ih sub' sorted (MadeOf.of_mem mem (ordered sp mem))
      refine ⟨fun p old => ?_, List.pairwise_cons.2 ⟨fun q later => ?_, apart⟩, fun q old => ?_⟩
      · rcases List.mem_cons.1 old with rfl | later
        · exact ⟨made, le_rfl⟩
        · exact ⟨(all p later).1, first.trans (all p later).2⟩
      · have := (all q later).2
        omega
      · rcases List.mem_cons.1 old with rfl | later
        · exact ⟨q, List.mem_cons_self, le_rfl, le_rfl⟩
        · obtain ⟨p, from_, low, high⟩ := kept q later
          exact ⟨p, List.mem_cons_of_mem _ from_, low, high⟩

theorem mergeSpans_spec {spans : List (Nat × Nat)} (gap : Nat) (ordered : ∀ p ∈ spans, p.1 ≤ p.2)
    (sorted : spans.Pairwise fun p q => p.1 ≤ q.1 ∧ p.2 ≤ q.2) :
    (∀ p ∈ mergeSpans gap spans, MadeOf spans gap p) ∧ (mergeSpans gap spans).Pairwise (fun p q => p.2 + 1 + gap < q.1)
      ∧ ∀ q ∈ spans, ∃ p ∈ mergeSpans gap spans, p.1 ≤ q.1 ∧ q.2 ≤ p.2 := by
  cases spans with
  | nil => exact ⟨fun p mem => absurd mem List.not_mem_nil, List.Pairwise.nil, fun q mem => absurd mem List.not_mem_nil⟩
  | cons sp rest =>
    obtain ⟨all, apart, kept⟩ := mergeFrom_spec (gap := gap) (List.subset_cons_self sp rest) ordered sorted
      (MadeOf.of_mem List.mem_cons_self (ordered sp List.mem_cons_self))
    exact ⟨fun p mem => (all p mem).1, apart, kept⟩

/-! ### The pulses of a burst -/

/-- The sample at an index is at or above the threshold, or saturated (R123). -/
def AboveAt (threshold : Nat) (xs : List Sample) (k : Nat) : Prop := ∃ x, xs[k]? = some x ∧ (threshold ≤ x.value ∨ x.raw = 1023)

theorem aboveAt_iff {threshold : Nat} {xs : List Sample} (k : Nat) :
    AboveAt threshold xs k ↔ (xs.map (Sample.over threshold))[k]? = some true := by
  rw [List.getElem?_map, Option.map_eq_some_iff]
  refine exists_congr fun x => and_congr_right fun _ => ?_
  rw [Sample.over, Bool.or_eq_true, decide_eq_true_iff, decide_eq_true_iff]
  rfl

theorem aboveAt_lt {threshold : Nat} {xs : List Sample} {k : Nat} (above : AboveAt threshold xs k) : k < xs.length := by
  obtain ⟨x, found, -⟩ := above
  exact (List.getElem?_eq_some_iff.1 found).1

/-- A kept run: a run of the minimum width (R123). -/
def KeptRun (c : ClassEntry) (threshold : Nat) (xs : List Sample) (r : Nat × Nat) : Prop :=
  IsRun (AboveAt threshold xs) r ∧ c.minWidth ≤ r.2 - r.1 + 1

/-- The spans of the kept runs. -/
def keptSpans (c : ClassEntry) (threshold : Nat) (xs : List Sample) : List (Nat × Nat) :=
  ((runsOf 0 none (xs.map (Sample.over threshold))).filter fun r => decide (r.2 - r.1 + 1 ≥ c.minWidth)).map
    (spanOf c.preSamples c.postSamples xs.length)

theorem pulseSpans_eq (c : ClassEntry) (threshold : Nat) (xs : List Sample) :
    pulseSpans c threshold xs = mergeSpans c.mergeGap (keptSpans c threshold xs) := rfl

theorem runs_spec (threshold : Nat) (xs : List Sample) :
    (∀ r, r ∈ runsOf 0 none (xs.map (Sample.over threshold)) ↔ IsRun (AboveAt threshold xs) r)
      ∧ (runsOf 0 none (xs.map (Sample.over threshold))).Pairwise fun p q => p.2 + 1 < q.1 := by
  obtain ⟨members, apart⟩ := runsOf_spec (P := AboveAt threshold xs) (i := 0) (reached := none)
    (rest := xs.map (Sample.over threshold)) (fun k => by rw [Nat.zero_add]; exact aboveAt_iff k) (.inl rfl)
  exact ⟨fun r => (members r).trans (and_iff_left (Nat.zero_le _)), apart⟩

theorem mem_keptSpans {c : ClassEntry} {threshold : Nat} {xs : List Sample} {p : Nat × Nat} :
    p ∈ keptSpans c threshold xs ↔ ∃ r, KeptRun c threshold xs r ∧ spanOf c.preSamples c.postSamples xs.length r = p := by
  simp only [keptSpans, List.mem_map, List.mem_filter, (runs_spec threshold xs).1, decide_eq_true_eq, KeptRun, ge_iff_le]

theorem keptSpans_sorted (c : ClassEntry) (threshold : Nat) (xs : List Sample) :
    (keptSpans c threshold xs).Pairwise fun p q => p.1 ≤ q.1 ∧ p.2 ≤ q.2 := by
  obtain ⟨members, apart⟩ := runs_spec threshold xs
  rw [keptSpans, List.pairwise_map]
  refine ((List.Pairwise.and_mem.1 apart).imp ?_).filter _
  rintro p q ⟨memP, memQ, apart⟩
  have ordered := ((members p).1 memP).ordered
  have ordered' := ((members q).1 memQ).ordered
  simp only [spanOf]
  omega

theorem KeptRun.span_ordered {c : ClassEntry} {threshold : Nat} {xs : List Sample} {r : Nat × Nat}
    (kept : KeptRun c threshold xs r) :
    r.1 - c.preSamples ≤ min (r.2 + c.postSamples) (xs.length - 1) ∧ min (r.2 + c.postSamples) (xs.length - 1) < xs.length := by
  have ordered := kept.1.ordered
  have := aboveAt_lt (kept.1.inside r.2 ordered le_rfl)
  omega

/-- What suppression gives (R123, R124). -/
theorem pulseSpans_spec (c : ClassEntry) (threshold : Nat) (xs : List Sample) :
    (∀ p ∈ pulseSpans c threshold xs, MadeOf (keptSpans c threshold xs) c.mergeGap p)
      ∧ (pulseSpans c threshold xs).Pairwise (fun p q => p.2 + 1 + c.mergeGap < q.1)
      ∧ ∀ q ∈ keptSpans c threshold xs, ∃ p ∈ pulseSpans c threshold xs, p.1 ≤ q.1 ∧ q.2 ≤ p.2 := by
  rw [pulseSpans_eq]
  refine mergeSpans_spec c.mergeGap (fun p mem => ?_) (keptSpans_sorted c threshold xs)
  obtain ⟨r, kept, rfl⟩ := mem_keptSpans.1 mem
  exact kept.span_ordered.1

/-- Settles O43, by the runs and their merging. -/
theorem suppressionKeepsEveryRun : Obligations.SuppressionKeepsEveryRun := by
  intro c threshold xs spans above kept first last
  obtain ⟨made, apart, covers⟩ := pulseSpans_spec c threshold xs
  have run {a e : Nat} : kept a e ↔ KeptRun c threshold xs (a, e) :=
    ⟨fun ⟨ordered, inside, before, after, wide⟩ => ⟨⟨ordered, inside, before, after⟩, wide⟩,
      fun ⟨⟨ordered, inside, before, after⟩, wide⟩ => ⟨ordered, inside, before, after, wide⟩⟩
  have spanned {a e : Nat} (here : kept a e) : ∃ p ∈ spans, p.1 ≤ first a ∧ last e ≤ p.2 :=
    covers _ (mem_keptSpans.2 ⟨(a, e), run.1 here, rfl⟩)
  have from_ {q : Nat × Nat} (mem : q ∈ keptSpans c threshold xs) : ∃ a e, kept a e ∧ q.1 = first a ∧ q.2 = last e := by
    obtain ⟨⟨a, e⟩, here, rfl⟩ := mem_keptSpans.1 mem
    exact ⟨a, e, run.2 here, rfl, rfl⟩
  refine ⟨apart, fun p mem => ⟨(made p mem).ordered, ?_⟩, fun a e => spanned, fun p mem => ⟨?_, ?_⟩, fun p mem k low high => ?_,
    fun a e ordered short wide inside => ?_⟩
  · obtain ⟨q, mem, same⟩ := (made p mem).last
    obtain ⟨r, kept, rfl⟩ := mem_keptSpans.1 mem
    exact same ▸ kept.span_ordered.2
  · obtain ⟨q, mem, same⟩ := (made p mem).first
    obtain ⟨a, e, here, start, -⟩ := from_ mem
    exact ⟨a, e, here, same.trans start⟩
  · obtain ⟨q, mem, same⟩ := (made p mem).last
    obtain ⟨a, e, here, -, stop⟩ := from_ mem
    exact ⟨a, e, here, same.trans stop⟩
  · obtain ⟨q, mem, q', mem', place⟩ := (made p mem).covered k low high
    obtain ⟨a, e, here, start, stop⟩ := from_ mem
    obtain ⟨b, f, there, start', -⟩ := from_ mem'
    rw [start, stop, start'] at place
    exact ⟨a, e, b, f, here, there, place⟩
  · obtain ⟨b, f, maximal, low, high⟩ := exists_run (P := AboveAt threshold xs) ordered inside fun k beyond yes =>
      absurd (aboveAt_lt yes) (Nat.not_lt.2 beyond)
    obtain ⟨p, mem, start, stop⟩ := spanned (run.2 ⟨maximal, show c.minWidth ≤ f - b + 1 by omega⟩)
    refine ⟨p, mem, start.trans ?_, le_trans ?_ stop⟩
    · show b - c.preSamples ≤ a
      omega
    · show e ≤ min (f + c.postSamples) (xs.length - 1)
      omega

end Sys2Proof.Machine
end

section
/-! THEOREMS. The processing of a burst: what is read, where it is mapped, and how its pulses are written (O39, O40, O41). -/

namespace Sys2Proof.Machine

open Sys2Proof.Safety

variable {s t u v : State} {j : Job} {i : SlotNo} {ws : List Word} {c : ClassEntry} {place : Place} {tr : Treatment}

/-! ### Reading a burst (R117, R118) -/

theorem readBurst_malformed (bad : Spec.malformed ws) : readBurst ws = none := by
  match ws with
  | [] | [_] | [_, _] => rfl
  | channel :: start :: count :: body =>
    refine if_pos ?_
    obtain short | high | zero | long := bad
    · simp at short; omega
    · exact .inl high
    · refine .inr (.inl ?_)
      simpa [Spec.burstCount, field] using zero
    · refine .inr (.inr ?_)
      simpa [Spec.burstCount, field] using long

theorem readBurst_good (good : ¬ Spec.malformed ws) :
    readBurst ws = some ⟨(ws.getD 0 0).toNat, (ws.getD 1 0).toNat % 1024, Spec.burstRaws ws⟩ := by
  match ws with
  | [] | [_] | [_, _] => exact absurd (.inl (by simp)) good
  | channel :: start :: count :: body =>
    rw [Spec.malformed, not_or, not_or, not_or] at good
    obtain ⟨-, low, some, short⟩ := good
    refine (if_neg ?_).trans ?_
    · rintro (high | zero | long)
      · exact low high
      · exact some (by simpa [Spec.burstCount, field] using zero)
      · exact short (by simpa [Spec.burstCount, field] using long)
    · simp [Spec.burstRaws, Spec.burstCount, field]

theorem burstRaws_length (good : ¬ Spec.malformed ws) : (Spec.burstRaws ws).length = Spec.burstCount ws := by
  rw [Spec.malformed, not_or, not_or, not_or] at good
  obtain ⟨-, -, -, short⟩ := good
  rw [Spec.burstRaws, List.length_map, List.length_take, List.length_drop]
  omega

/-! ### Its place and its treatment (R98 to R100, R119) -/

theorem lookupPad_unmapped {n : LinkNo} {channel : Nat} (unmapped : ∀ k, ¬ Spec.covers (s.windows.get k) n channel) :
    lookupPad s.windows s.rows n channel = none := by
  rw [lookupPad, Option.map_eq_none_iff, matchingWindow, find_indices_none]
  exact fun k => Bool.eq_false_iff.2 fun yes => unmapped k (MapWindow.covers_iff.1 yes)

theorem lookupPad_placed {n : LinkNo} {channel : Nat} (placed : Spec.placed s n channel place) :
    lookupPad s.windows s.rows n channel = some place := by
  obtain ⟨k, matching, row, pad, flat⟩ := placed
  rw [lookupPad, matchingWindow_eq_some.2 matching, Option.map_some]
  dsimp only
  rw [MapWindow.padOf_eq, rowStart, ← row, ← pad, ← flat]

theorem treatmentOf_eq (m : PadMode) (k : ClassKind) : treatmentOf m k = Spec.treatment m k := by
  cases m <;> cases k <;> rfl

theorem Treatment.value_eq (t : Treatment) (p : Pad) (raw : Nat) :
    t.value p raw = if t = .suppressed ∨ t = .corrected then correct p.pedestal p.gain raw else raw := by
  cases t <;> rfl

theorem alignSamples_eq (s : State) (j : Job) (pad : Pad) (t : Treatment) (ws : List Word) :
    alignSamples t pad ((((ws.getD 1 0).toNat % 1024 : Nat) : Int) + s.offsets.get j.link) (Spec.burstRaws ws) = Spec.treated s j
      pad t ws := by
  simp only [alignSamples, Spec.treated, Treatment.value_eq]

theorem pulsesOf_eq (t : Treatment) (c : ClassEntry) (p : Pad) (xs : List Sample) : pulsesOf t c p xs = Spec.pulses t c p xs := by
  cases t with
  | suppressed =>
    refine List.map_congr_left fun span mem => ?_
    have ordered := ((pulseSpans_spec c p.threshold xs).1 span mem).ordered
    rw [slice, show span.2 - span.1 + 1 = span.2 + 1 - span.1 by omega]
  | corrected | raw | dropped => rfl

/-! ### Its pulses (R122, R126 to R130) -/

theorem clipSamples_eq (c : ClassEntry) (p : List Sample) : clipSamples c.driftWindow p = Spec.keptOf c p := rfl

theorem pulseFrom_words {p : List Sample} {first : Sample} {more : List Sample} (kept : Spec.keptOf c p = first :: more) :
    (pulseFrom place tr (decide ((Spec.keptOf c p).length < p.length)) first more).words = Spec.pulseWords c place tr p := by
  have row : atBit place.row 8 + place.pad = 256 * place.row + place.pad := by rw [atBit, Nat.shiftLeft_eq, Nat.mul_comm]
  have saturated : flagAt ((first :: more).any fun x => decide (x.raw = Config.overflowCode)) 15 =
      if ∃ q ∈ Spec.keptOf c p, q.raw = 1023 then 32768 else 0 :=
    if_congr (by rw [kept]; simp only [List.any_eq_true, decide_eq_true_eq]; rfl) rfl rfl
  have lost : flagAt (decide ((Spec.keptOf c p).length < p.length)) 14 = if (Spec.keptOf c p).length < p.length then 16384 else 0 :=
    if_congr decide_eq_true_iff rfl rfl
  have raw : flagAt (decide (tr = .raw)) 13 = if tr = .raw then 8192 else 0 := if_congr decide_eq_true_iff rfl rfl
  rw [Pulse.words, Spec.pulseWords, pulseFrom]
  dsimp only
  rw [row, saturated, lost, raw, List.map_map, List.length_map, kept]
  rfl

/-- A fragment that loses samples to clipping is flagged (R126). -/
theorem Job.clippedIf_eq (c : ClassEntry) (j : Job) (p : List Sample) :
    j.clippedIf (decide ((Spec.keptOf c p).length < p.length)) = Spec.clippedJob c j p := by
  rw [clippedIf, Spec.clippedJob]
  split
  · next lost => rw [decide_eq_true lost, Bool.or_true]
  · next whole => rw [decide_eq_false whole, Bool.or_false]

theorem Job.need_eq (j : Job) (size : Nat) : j.need size = Spec.needed j size := rfl

theorem State.writePulse_eq (s : State) (j : Job) (ws : List Word) :
    s.writePulse j ws =
      (Spec.chainWritten (if Spec.needed j ws.length = 0 then s else Spec.cellsTaken s (Spec.needed j ws.length))
        (Spec.wroteJob s j ws.length).cells j.wordCount ws, Spec.wroteJob s j ws.length) := by
  rw [Spec.chainWritten_eq]
  rfl

/-- A pulse meets the cell limit and the free cells (R128, R130). -/
theorem State.offerPulse_eq (s : State) (j : Job) (limit : Nat) (ws : List Word) :
    s.offerPulse j limit ws =
      if 0 < Spec.needed j ws.length ∧ limit < j.cells.length + Spec.needed j ws.length then
        (s.bump (.link .truncated j.link), { j with stopped := true, flags := { j.flags with truncated := true } })
      else if s.freeQueue.length < Spec.needed j ws.length then
        (((s.bump (.link .truncated j.link)).bump (.part .storeFullTruncations)).addError .storeExhausted,
          { j with stopped := true, flags := { j.flags with truncated := true, storeFull := true } })
      else
        (Spec.chainWritten (if Spec.needed j ws.length = 0 then s else Spec.cellsTaken s (Spec.needed j ws.length))
          (Spec.wroteJob s j ws.length).cells j.wordCount ws, Spec.wroteJob s j ws.length) := by
  rw [offerPulse, Job.truncate, Job.truncate, Bool.or_false, Bool.or_true, writePulse_eq]
  rfl

theorem Spec.meetsPulse_stopped {a : State × Job} (stopped : a.2.stopped = true) (p : List Sample) :
    Spec.meetsPulse c place tr a p = a :=
  if_pos stopped

theorem Spec.meetsPulse_empty {a : State × Job} (going : a.2.stopped = false) {p : List Sample} (empty : Spec.keptOf c p = []) :
    Spec.meetsPulse c place tr a p = (a.1, Spec.clippedJob c a.2 p) :=
  (if_neg (by rw [going]; decide)).trans (if_pos empty)

theorem Spec.meetsPulse_kept {a : State × Job} (going : a.2.stopped = false) {p : List Sample} (kept : Spec.keptOf c p ≠ []) :
    Spec.meetsPulse c place tr a p = a.1.offerPulse (Spec.clippedJob c a.2 p) c.cellLimit (Spec.pulseWords c place tr p) := by
  rw [State.offerPulse_eq]
  exact (if_neg (by rw [going]; decide)).trans (if_neg kept)

theorem Spec.foldl_meetsPulse_stopped (l : List (List Sample)) {a : State × Job} (stopped : a.2.stopped = true) :
    l.foldl (Spec.meetsPulse c place tr) a = a := by
  induction l with
  | nil => rfl
  | cons p rest ih => rw [List.foldl_cons, Spec.meetsPulse_stopped stopped, ih]

theorem Job.clippedIf_stopped (j : Job) (lost : Bool) : (j.clippedIf lost).stopped = j.stopped := rfl

/-- The pulses of a burst, one after another. -/
theorem State.writePulses_eq (l : List (List Sample)) (s : State) {j : Job} (going : j.stopped = false) :
    s.writePulses j c place tr l = l.foldl (Spec.meetsPulse c place tr) (s, j) := by
  induction l generalizing s j with
  | nil => rfl
  | cons p rest ih =>
    rw [writePulses, List.foldl_cons]
    dsimp only
    rw [clipSamples_eq, Job.clippedIf_eq]
    split
    · next empty =>
      rw [Spec.meetsPulse_empty going empty]
      exact ih s (by rw [← Job.clippedIf_eq]; exact going)
    · next first more kept =>
      rw [Spec.meetsPulse_kept going (by rw [kept]; exact List.cons_ne_nil _ _), pulseFrom_words kept]
      generalize s.offerPulse (Spec.clippedJob c j p) c.cellLimit (Spec.pulseWords c place tr p) = r
      split
      · next stopped => exact (Spec.foldl_meetsPulse_stopped rest stopped).symm
      · next on => exact ih r.1 (Bool.eq_false_iff.2 on)

/-! ### The accumulator (R120, R150) -/

theorem State.deliver_eq (s : State) (j : Job) (c : ClassEntry) (place : Place) (t : Treatment) (ws : List Word) :
    (if c.kind = .pedestal ∧ t ≠ .dropped then s.deliver j place.flat (Spec.burstRaws ws) else (s, j)) =
      Spec.delivered s j c place t ws := by
  rw [Spec.delivered, deliver]
  by_cases pedestal : c.kind = .pedestal
  · by_cases kept : t = .dropped
    · rw [if_neg fun both => both.2 kept, if_pos (.inr (.inl kept))]
    · rw [if_pos ⟨pedestal, kept⟩]
      by_cases accumulating : s.accState = .accumulating
      · have meets : ¬ (c.kind ≠ .pedestal ∨ t = .dropped ∨ s.accState ≠ .accumulating) := by simp [pedestal, kept, accumulating]
        rw [if_neg (not_not.2 accumulating), if_neg meets]
        cases j.urgent <;> rfl
      · rw [if_pos accumulating, if_pos (.inr (.inr accumulating))]
  · rw [if_neg fun both => pedestal both.1, if_pos (.inl pedestal)]

theorem Spec.delivered_going {ws : List Word} : (Spec.delivered s j c place tr ws).2.stopped = j.stopped := by
  rw [Spec.delivered]
  split_ifs <;> rfl

/-! ### The burst (R119) -/

theorem exec_burstProcessing (bursting : Spec.bursting s j i ws) :
    exec .burstProcessing s = .next { (s.nextBurst j i).1 with job := some (s.nextBurst j i).2 } := by
  obtain ⟨job, conditions, going, remains, rest⟩ := bursting
  have unfinished : ¬ s.jobFinished j = true := by
    rw [State.jobFinished_iff, going]
    rintro (no | done)
    · cases no
    · exact remains (rest.trans (List.drop_eq_nil_of_le done))
  refine congrArg Host.Outcome.next ?_
  rw [State.burstProcessing, job]
  dsimp only
  rw [conditions]
  exact if_neg unfinished

theorem State.nextBurst_malformed (bursting : Spec.bursting s j i ws) (bad : Spec.malformed ws) :
    s.nextBurst j i = s.malformedBurst j := by
  obtain ⟨-, -, -, -, rest⟩ := bursting
  rw [nextBurst, sourceWords_eq, ← rest, readBurst_malformed bad]

theorem State.nextBurst_good (bursting : Spec.bursting s j i ws) (good : ¬ Spec.malformed ws) :
    s.nextBurst j i =
      s.processBurst { j with position := j.position + 3 + Spec.burstCount ws } (Spec.classOfSlot s i)
        ⟨(ws.getD 0 0).toNat, (ws.getD 1 0).toNat % 1024, Spec.burstRaws ws⟩ := by
  obtain ⟨-, -, -, -, rest⟩ := bursting
  rw [nextBurst, sourceWords_eq, ← rest, readBurst_good good]
  dsimp only
  rw [burstRaws_length good]
  rfl

/-- A burst on a mapped channel. -/
theorem State.nextBurst_placed (bursting : Spec.bursting s j i ws) (good : ¬ Spec.malformed ws)
    (placed : Spec.placed s j.link (ws.getD 0 0).toNat place) :
    let c := Spec.classOfSlot s i
    let pad := Memory.read Pad.cold s.pads place.flat
    let t := Spec.treatment pad.mode c.kind
    s.nextBurst j i =
      (Spec.pulses t c pad (Spec.treated s j pad t ws)).foldl (Spec.meetsPulse c place t)
        (Spec.delivered s { j with position := j.position + 3 + Spec.burstCount ws } c place t ws) := by
  intro c pad t
  rw [nextBurst_good bursting good, processBurst]
  dsimp only
  rw [lookupPad_placed placed]
  dsimp only
  rw [conditionBurst]
  dsimp only
  have going : (Spec.delivered s { j with position := j.position + 3 + Spec.burstCount ws } c place t ws).2.stopped = false :=
    Spec.delivered_going.trans bursting.2.2.1
  rw [treatmentOf_eq, deliver_eq, writePulses_eq _ _ going, pulsesOf_eq, alignSamples_eq]

/-! ### The bursts that write nothing (O39) -/

theorem keptSpans_nil {threshold : Nat} {xs : List Sample} (none : ∀ k, ¬ AboveAt threshold xs k) :
    keptSpans c threshold xs = [] := by
  refine List.eq_nil_iff_forall_not_mem.2 fun p mem => ?_
  obtain ⟨r, kept, -⟩ := mem_keptSpans.1 mem
  exact none r.1 (kept.1.inside r.1 le_rfl kept.1.ordered)

/-- A burst with no sample over the threshold gives no pulse. -/
theorem Spec.pulses_none {pad : Pad} {xs : List Sample} (none : ∀ k, ¬ AboveAt pad.threshold xs k) :
    Spec.pulses .suppressed c pad xs = [] := by
  rw [Spec.pulses, pulseSpans_eq, keptSpans_nil none]
  rfl

theorem treated_below {pad : Pad} (calm : ∀ raw ∈ Spec.burstRaws ws, raw < 1023 ∧ correct pad.pedestal pad.gain raw < pad.threshold)
    (k : Nat) :
    ¬ AboveAt pad.threshold (Spec.treated s j pad .suppressed ws) k := by
  rintro ⟨x, found, high⟩
  rw [Spec.treated, List.getElem?_map, Option.map_eq_some_iff] at found
  obtain ⟨⟨raw, index⟩, at_, rfl⟩ := found
  have mem : raw ∈ Spec.burstRaws ws := by
    obtain ⟨_, here⟩ := List.mem_zipIdx' (List.mem_of_getElem? at_)
    exact here ▸ List.getElem_mem _
  obtain ⟨low, below⟩ := calm raw mem
  obtain over_ | saturated := high
  · exact absurd over_ (Nat.not_le.2 below)
  · exact absurd saturated (ne_of_lt low)

/-- Settles O39. -/
theorem burstsThatWriteNothing : Obligations.BurstsThatWriteNothing := by
  refine ⟨fun s idle => congrArg Host.Outcome.next ?_, ?_⟩
  · obtain none | ⟨j, job, park | over_⟩ := idle
    · rw [State.burstProcessing, none]
    · rw [State.burstProcessing, job]
      dsimp only
      rw [park]
    · rw [State.burstProcessing, job]
      dsimp only
      split
      · rfl
      · exact if_pos (State.jobFinished_iff.2 over_)
  · intro s j i ws next channel bursting
    refine ⟨fun bad => ?_, fun good unmapped => ?_, fun place good placed => ?_⟩
    · rw [exec_burstProcessing bursting, State.nextBurst_malformed bursting bad]
      rfl
    · rw [exec_burstProcessing bursting, State.nextBurst_good bursting good, State.processBurst]
      dsimp only
      rw [lookupPad_unmapped unmapped]
    · intro pad
      refine ⟨fun dropped => ?_, fun active physics calm => ?_⟩
      · have treatment : Spec.treatment pad.mode (Spec.classOfSlot s i).kind = .dropped := if_pos dropped
        rw [exec_burstProcessing bursting, State.nextBurst_placed bursting good placed]
        rw [treatment, Spec.delivered, if_pos (.inr (.inl rfl))]
        rfl
      · have treatment : Spec.treatment pad.mode (Spec.classOfSlot s i).kind = .suppressed := by rw [active, physics]; rfl
        have nothing := Spec.pulses_none (c := Spec.classOfSlot s i) (treated_below (s := s) (j := j) calm)
        rw [exec_burstProcessing bursting, State.nextBurst_placed bursting good placed]
        rw [treatment, nothing, Spec.delivered, if_pos (.inl (by rw [physics]; decide))]
        rfl

/-! ### The accumulator at a PEDESTAL burst (O41) -/

/-- What a pulse leaves of the accumulator, its skip counter and the job's part in it. -/
structure PulseKeeps (a b : State × Job) : Prop where
  acc : b.1.acc = a.1.acc
  skips : b.1.counter (.part .pedestalSkip) = a.1.counter (.part .pedestalSkip)
  skipCounted : b.2.skipCounted = a.2.skipCounted

theorem PulseKeeps.refl (a : State × Job) : PulseKeeps a a := ⟨rfl, rfl, rfl⟩

theorem PulseKeeps.trans {a b d : State × Job} (first : PulseKeeps a b) (second : PulseKeeps b d) : PulseKeeps a d :=
  ⟨second.acc.trans first.acc, second.skips.trans first.skips, second.skipCounted.trans first.skipCounted⟩

theorem Spec.clippedJob_skipCounted (c : ClassEntry) (j : Job) (p : List Sample) :
    (Spec.clippedJob c j p).skipCounted = j.skipCounted := by
  rw [← Job.clippedIf_eq]; rfl

theorem State.offerPulse_keeps (s : State) (j : Job) (limit : Nat) (ws : List Word) :
    PulseKeeps (s, j) (s.offerPulse j limit ws) := by
  have truncated (u : State) : (u.bump (.link .truncated j.link)).counter (.part .pedestalSkip) = u.counter (.part .pedestalSkip) :=
    u.counter_bumpBy_ne 1 nofun
  rw [offerPulse_eq]
  split
  · exact ⟨rfl, truncated s, rfl⟩
  · split
    · refine ⟨rfl, ?_, rfl⟩
      exact ((s.bump (.link .truncated j.link)).counter_bumpBy_ne (c := .part .storeFullTruncations) 1
        (show Counter.part .pedestalSkip ≠ .part .storeFullTruncations by decide)).trans (truncated s)
    · rw [Spec.chainWritten_eq]
      split
      · exact ⟨rfl, rfl, rfl⟩
      · rw [← takeCells_eq, takeCells_frame]
        exact ⟨rfl, rfl, rfl⟩

theorem Spec.meetsPulse_keeps (a : State × Job) (p : List Sample) : PulseKeeps a (Spec.meetsPulse c place tr a p) := by
  cases going : a.2.stopped with
  | true => rw [Spec.meetsPulse_stopped going]; exact PulseKeeps.refl a
  | false =>
    by_cases kept : Spec.keptOf c p = []
    · rw [Spec.meetsPulse_empty going kept]
      exact ⟨rfl, rfl, Spec.clippedJob_skipCounted c a.2 p⟩
    · rw [Spec.meetsPulse_kept going kept]
      have same : PulseKeeps a (a.1, Spec.clippedJob c a.2 p) := ⟨rfl, rfl, Spec.clippedJob_skipCounted c a.2 p⟩
      exact same.trans (State.offerPulse_keeps _ _ _ _)

theorem Spec.foldl_meetsPulse_keeps (l : List (List Sample)) (a : State × Job) :
    PulseKeeps a (l.foldl (Spec.meetsPulse c place tr) a) := by
  induction l generalizing a with
  | nil => exact PulseKeeps.refl a
  | cons p rest ih => exact (Spec.meetsPulse_keeps a p).trans (ih _)

/-- Settles O41: the accumulator takes the burst before its pulses are written. -/
theorem pedestalBurstsAreAccumulated : Obligations.PedestalBurstsAreAccumulated := by
  intro s j i ws place bursting good placed pedestal unmasked accumulating canonical
  obtain ⟨counters, -, -, acc⟩ := canonical
  have raw : Spec.treatment (Memory.read Pad.cold s.pads place.flat).mode (Spec.classOfSlot s i).kind = .raw := by
    rw [pedestal]
    exact (if_neg (by simp [unmasked])).trans (if_pos (.inr rfl))
  have meets : ¬ ((Spec.classOfSlot s i).kind ≠ .pedestal ∨ Treatment.raw = .dropped ∨ s.accState ≠ .accumulating) := by
    simp [pedestal, accumulating]
  refine ⟨_, exec_burstProcessing bursting, ?_⟩
  rw [State.nextBurst_placed bursting good placed]
  dsimp only
  rw [raw]
  generalize Spec.pulses .raw _ _ _ = pulses
  let k : Job := { j with position := j.position + 3 + Spec.burstCount ws }
  have kept := Spec.foldl_meetsPulse_keeps (c := Spec.classOfSlot s i) (place := place) (tr := .raw) pulses
    (Spec.delivered s k (Spec.classOfSlot s i) place .raw ws)
  generalize pulses.foldl _ _ = r at kept ⊢
  have count : State.counter { r.1 with job := some r.2 } (.part .pedestalSkip) = r.1.counter (.part .pedestalSkip) := rfl
  rw [count]
  simp only [Option.some.injEq, forall_eq']
  cases urgent : j.urgent with
  | false =>
    rw [show Spec.delivered s k (Spec.classOfSlot s i) place .raw ws = _ from (if_neg meets).trans (if_pos urgent)] at kept
    refine ⟨fun _ flat => ?_, nofun, kept.skips, kept.skipCounted.trans (Bool.or_false _).symm⟩
    rw [kept.acc, Memory.read_write _ _ _ acc]
    split
    · next here => rw [here]
    · rfl
  | true =>
    have withheld : ¬ k.urgent = false := by rw [show k.urgent = true from urgent]; decide
    cases skipped : j.skipCounted with
    | true =>
      rw [show Spec.delivered s k (Spec.classOfSlot s i) place .raw ws = _ from
        (if_neg meets).trans ((if_neg withheld).trans (if_pos skipped))] at kept
      exact ⟨nofun, fun _ => kept.acc, kept.skips, kept.skipCounted.trans skipped⟩
    | false =>
      have first : ¬ k.skipCounted = true := by rw [show k.skipCounted = false from skipped]; decide
      rw [show Spec.delivered s k (Spec.classOfSlot s i) place .raw ws = _ from
        (if_neg meets).trans ((if_neg withheld).trans (if_neg first))] at kept
      exact ⟨nofun, fun _ => kept.acc, kept.skips.trans (s.counter_bumpBy_self (.part .pedestalSkip) 1 counters), kept.skipCounted⟩

end Sys2Proof.Machine
end

section
/-! THEOREMS. The pulses of a burst on a mapped channel, and the words of the one that is written (O40). -/

namespace Sys2Proof.Machine

open Sys2Proof.Safety

variable {s t u v : State} {j k : Job} {i : SlotNo} {ws words : List Word} {c : ClassEntry} {place : Place} {tr : Treatment}
variable {cells more : List Nat}

/-! ### The job and its chain -/

/-- What the writing of a pulse reads of a state and a job is the same in both. -/
structure SameChain (s t : State) (j k : Job) : Prop where
  freeQueue : t.freeQueue = s.freeQueue
  lowMark : t.lowMark = s.lowMark
  store : t.store = s.store
  cells : k.cells = j.cells
  wordCount : k.wordCount = j.wordCount

/-- The accumulator's part in a burst leaves the store, its free cells and the job's chain as they are (R120). -/
theorem Spec.delivered_sameChain (s : State) (j : Job) (c : ClassEntry) (place : Place) (tr : Treatment) (ws : List Word) :
    SameChain s (Spec.delivered s j c place tr ws).1 j (Spec.delivered s j c place tr ws).2 := by
  rw [Spec.delivered]
  split_ifs <;> exact ⟨rfl, rfl, rfl, rfl, rfl⟩

theorem SameChain.clipped (same : SameChain s t j k) (c : ClassEntry) (p : List Sample) :
    SameChain s t j (Spec.clippedJob c k p) := by
  obtain ⟨free, low, store, cells, count⟩ := same
  rw [Spec.clippedJob]
  split <;> exact ⟨free, low, store, cells, count⟩

/-- The place of a word of a chain does not change when the chain grows. -/
theorem wordPlace_append {w : Nat} (inside : w < 64 * cells.length) :
    Spec.wordPlace (cells ++ more) w = Spec.wordPlace cells w := by
  rw [Spec.wordPlace, Spec.wordPlace, List.getD_append _ _ _ _ (by omega)]

theorem wordPlace_cell {w : Nat} (inside : w < 64 * cells.length) : Spec.wordPlace cells w / 64 ∈ cells := by
  have place : w / 64 < cells.length := by omega
  rw [Spec.wordPlace, List.getD_eq_getElem _ _ place, show (cells[w / 64] * 64 + w % 64) / 64 = cells[w / 64] by omega]
  exact List.getElem_mem _

/-- Words written behind those of a chain, which grows for them, are read back behind them. -/
theorem State.chainWords_append {w : Nat} (canonical : Memory.wf 0 s.store = true) (apart : (cells ++ more).Nodup)
    (old : w ≤ 64 * cells.length) (room : w + words.length ≤ 64 * (cells ++ more).length) :
    Spec.chainWords (s.writeChain (cells ++ more) w words) (cells ++ more) (w + words.length) = Spec.chainWords s cells w
      ++ words := by
  refine List.ext_getElem (by simp [Spec.chainWords]) fun k small small' => ?_
  have inside : k < w + words.length := by simpa [Spec.chainWords] using small
  have here : (Spec.chainWords (s.writeChain (cells ++ more) w words) (cells ++ more) (w + words.length))[k] =
      Memory.read 0 (s.writeChain (cells ++ more) w words).store (Spec.wordPlace (cells ++ more) k) := by simp [Spec.chainWords]
  rw [here]
  have length : (Spec.chainWords s cells w).length = w := by simp [Spec.chainWords]
  by_cases before : k < w
  · have kept : ∀ m < words.length, Spec.wordPlace (cells ++ more) (w + m) ≠ Spec.wordPlace (cells ++ more) k :=
      fun m short same => by
      have := wordPlace_injective apart (by omega) (by omega) same
      omega
    rw [read_writeChain_out kept, wordPlace_append (by omega), List.getElem_append_left (by rw [length]; exact before)]
    simp [Spec.chainWords]
  · have written := State.read_writeChain_in (s := s) canonical apart room (k := k - w) (by omega)
    rw [show w + (k - w) = k by omega] at written
    rw [written, List.getElem_append_right (by omega)]
    simp only [length]

/-! ### The pulse that is written (R127, R138, R144) -/

/-- The state that a pulse's words are written in. -/
def State.taking (s : State) (need : Nat) : State := if need = 0 then s else Spec.cellsTaken s need

theorem State.taking_frame (s : State) (need : Nat) :
    s.taking need =
      { s with
        freeQueue := s.freeQueue.drop need, lowMark := if need = 0 then s.lowMark else min s.lowMark (s.freeQueue.length - need)
        timingFlow := (s.taking need).timingFlow, timingDue := (s.taking need).timingDue } := by
  rw [taking]
  split
  · next none => rw [none]; rfl
  · rw [← takeCells_eq]
    conv_lhs => rw [takeCells_frame]
    rfl

/-- A pulse that meets neither limit is written whole (R127). -/
theorem State.offerPulse_written {limit : Nat}
    (fits : Spec.needed j words.length = 0 ∨ j.cells.length + Spec.needed j words.length ≤ limit)
    (free : Spec.needed j words.length ≤ s.freeQueue.length) :
    s.offerPulse j limit words =
      ((s.taking (Spec.needed j words.length)).writeChain (Spec.wroteJob s j words.length).cells j.wordCount words,
        Spec.wroteJob s j words.length) := by
  rw [offerPulse_eq, if_neg, if_neg (Nat.not_lt.2 free), Spec.chainWritten_eq]
  · rfl
  · rintro ⟨some, beyond⟩
    obtain none | within := fits <;> omega

/-- The chain of a job after a pulse is written at its end. -/
theorem State.written_chain (canonical : Memory.wf 0 s.store = true) (chain : Spec.cellsOf j.wordCount = j.cells.length)
    (apart : (j.cells ++ s.freeQueue).Nodup) (free : Spec.needed j words.length ≤ s.freeQueue.length) :
    let k := Spec.wroteJob s j words.length
    let u := (s.taking (Spec.needed j words.length)).writeChain k.cells j.wordCount words
    Spec.chainWords u k.cells k.wordCount = Spec.chainWords s j.cells j.wordCount ++ words
      ∧ ∀ a, a / 64 ∉ k.cells → Memory.read 0 u.store a = Memory.read 0 s.store a := by
  intro k u
  have store : (s.taking (Spec.needed j words.length)).store = s.store := by rw [taking_frame]
  have apart' : (j.cells ++ s.freeQueue.take (Spec.needed j words.length)).Nodup :=
    apart.sublist ((List.take_sublist _ _).append_left _)
  have length : (j.cells ++ s.freeQueue.take (Spec.needed j words.length)).length = j.cells.length + Spec.needed j words.length :=
    by
    rw [List.length_append, List.length_take, min_eq_left free]
  have room : j.wordCount + words.length ≤ 64 * (j.cells ++ s.freeQueue.take (Spec.needed j words.length)).length := by
    rw [length]
    rw [Spec.cellsOf] at chain
    rw [Spec.needed, Spec.cellsOf, Spec.cellsOf]
    omega
  have old : j.wordCount ≤ 64 * j.cells.length := by rw [Spec.cellsOf] at chain; omega
  refine ⟨?_, fun a out => ?_⟩
  · have read := State.chainWords_append (s := s.taking (Spec.needed j words.length)) (words := words) (store ▸ canonical) apart'
      old room
    have before : Spec.chainWords (s.taking (Spec.needed j words.length)) j.cells j.wordCount = Spec.chainWords s j.cells
      j.wordCount := by
      rw [Spec.chainWords, Spec.chainWords, store]
    exact read.trans (by rw [before])
  · refine (State.read_writeChain_out fun m short same => out ?_).trans (by rw [store])
    rw [← same]
    exact wordPlace_cell (by show _ < 64 * (j.cells ++ s.freeQueue.take (Spec.needed j words.length)).length; omega)

/-- Settles O40. -/
theorem burstsWriteTheirPulse : Obligations.BurstsWriteTheirPulse := by
  intro s j i ws place c pad t pulses start done bursting good placed
  have executed : exec .burstProcessing s = .next { done.1 with job := some done.2 } := by
    rw [exec_burstProcessing bursting, State.nextBurst_placed bursting good placed]
  refine ⟨executed, ?_⟩
  intro p words need one kept fits free chain apart canonical u
  obtain ⟨-, -, going, -⟩ := bursting
  obtain ⟨-, -, store, -⟩ := canonical
  have stands : start.2.stopped = false := Spec.delivered_going.trans going
  let k := Spec.clippedJob c start.2 p
  have same : SameChain s start.1 { j with position := j.position + 3 + Spec.burstCount ws } k :=
    (Spec.delivered_sameChain s { j with position := j.position + 3 + Spec.burstCount ws } c place t ws).clipped c p
  have cells : k.cells = j.cells := same.cells
  have count : k.wordCount = j.wordCount := same.wordCount
  have size : Spec.needed k words.length = need := by
    show Spec.cellsOf (k.wordCount + words.length) - Spec.cellsOf k.wordCount = _
    rw [count]
    rfl
  have written : done =
      ((start.1.taking need).writeChain (Spec.wroteJob start.1 k words.length).cells k.wordCount words,
        Spec.wroteJob start.1 k words.length) := by
    show pulses.foldl (Spec.meetsPulse c place t) start = _
    rw [one, List.foldl_cons, List.foldl_nil, Spec.meetsPulse_kept stands kept, ← size]
    exact State.offerPulse_written (by rw [size, cells]; exact fits) (by rw [size, same.freeQueue]; exact free)
  obtain ⟨read, rest⟩ := State.written_chain (s := start.1) (j := k) (words := words) (by rw [same.store]; exact store)
    (by rw [count, cells]; exact chain) (by rw [cells, same.freeQueue]; exact apart)
    (by rw [size, same.freeQueue]; exact free)
  rw [size] at read rest
  have taken := start.1.taking_frame need
  generalize start.1.taking need = x at taken written read rest
  have job : done.2 = Spec.wroteJob s k words.length := by
    rw [written, Spec.wroteJob, Spec.wroteJob, same.freeQueue]
  refine ⟨job, ?_, ?_, ?_, fun a out => ?_, ?_⟩
  · show done.1.freeQueue = _
    rw [written, ← same.freeQueue]
    exact congrArg State.freeQueue taken
  · show done.1.lowMark = _
    rw [written, ← same.freeQueue, ← same.lowMark]
    exact congrArg State.lowMark taken
  · show Spec.chainWords done.1 done.2.cells done.2.wordCount = _
    rw [written]
    refine read.trans ?_
    rw [Spec.chainWords, Spec.chainWords, same.store, cells, count]
  · show Memory.read 0 done.1.store a = _
    rw [written] at out ⊢
    rw [← same.store]
    exact rest a out
  · show { done.1 with job := some done.2 } =
      { start.1 with
        job := some done.2, freeQueue := done.1.freeQueue, lowMark := done.1.lowMark, store := done.1.store
        timingFlow := done.1.timingFlow, timingDue := done.1.timingDue }
    rw [written, taken]
    rfl

end Sys2Proof.Machine
end

section
/-! THEOREMS. A whole event frame (O48, R141, R157, R160 to R163). -/

namespace Sys2Proof.Machine

open Sys2Proof.Safety

variable {s t : State} {x : Slot} {p : Position}

/-! ### The state of the slot at each position of its frame -/

/-- How many cells of a record have left once `j` of its words are sent (R141). -/
def cellsSent (wordCount j : Nat) : Nat := if j = wordCount then (wordCount + 63) / 64 else j / 64

/-- A record that has lost its first `k` cells. -/
def FragRecord.without (r : FragRecord) (k : Nat) : FragRecord := { r with cells := r.cells.drop k }

/-- What is left of the record of link `m` when the frame stands at a position: the sections before it are sent whole, and of its own
section the cells whose words are sent have left. -/
def Slot.recordAt (x : Slot) : Position → LinkNo → Option FragRecord
  | .header _, m => x.records.get m
  | .sect n k, m =>
    if m < n then (x.records.get m).map fun r => r.without r.cells.length
    else if m = n then (x.records.get m).map fun r => r.without (cellsSent r.wordCount (k - 4))
    else x.records.get m
  | .trailer _, m | .crcNext, m | .endNext, m => (x.records.get m).map fun r => r.without r.cells.length

/-- The slot while its frame stands at a position. -/
def Slot.emittingAt (x : Slot) (p : Position) : Slot := { x with state := .emitting, records := Bank.build (x.recordAt p) }

/-- The links of a slot's sections from link number `b` on. -/
def Slot.sectionsFrom (x : Slot) (b : Nat) : List LinkNo := x.sections.filter fun n => decide (b ≤ n.val)

/-- The trailer words (R162). -/
def Spec.trailerWords (s : State) (x : Slot) : List Word :=
  let body := Spec.headerWords s x ++ x.sections.flatMap (Spec.sectionWords s x)
  [BitVec.ofNat 16 (256 * x.late + x.duplicate), BitVec.ofNat 16 ((body.length + 3) / 65536), BitVec.ofNat 16 (body.length + 3)]

/-- The sections from link number `b` on and the trailer. -/
def Spec.wordsFrom (s : State) (x : Slot) (b : Nat) : List Word :=
  (x.sectionsFrom b).flatMap (Spec.sectionWords s x) ++ Spec.trailerWords s x

/-- The data words that are still to be sent when the frame stands at a position. -/
def Spec.ahead (s : State) (x : Slot) : Position → List Word
  | .header k => (Spec.headerWords s x).drop k ++ Spec.wordsFrom s x 0
  | .sect n k => (Spec.sectionWords s x n).drop k ++ Spec.wordsFrom s x (n.val + 1)
  | .trailer k => (Spec.trailerWords s x).drop k
  | .crcNext | .endNext => []

/-- The positions of the frame at which a data word is sent. -/
def Slot.HasWord (x : Slot) : Position → Prop
  | .header k => k < 20
  | .sect n k => ∃ r, x.records.get n = some r ∧ k < 4 + r.wordCount
  | .trailer k => k < 3
  | .crcNext | .endNext => False

/-- The records are those of the sections, each with the cells its words need. -/
structure Slot.Framed (x : Slot) : Prop where
  records : ∀ n, x.records.get n ≠ none ↔ Spec.hasSection x n
  chains : ∀ n r, x.records.get n = some r → chainFits r.cells r.wordCount

/-! ### The sections in order -/

theorem Slot.sections_eq (x : Slot) : x.sections = Spec.sectionLinks x := by
  rw [sections, Spec.sectionLinks]
  congr 1
  funext n
  rw [hasSection, Bool.eq_iff_iff, Bool.or_eq_true, Bool.or_eq_true, beq_iff_eq, beq_iff_eq, decide_eq_true_iff, decide_eq_true_iff]

theorem Slot.Framed.mem_sections (framed : x.Framed) {n : LinkNo} : n ∈ x.sections ↔ x.records.get n ≠ none := by
  rw [framed.records, sections_eq, Spec.sectionLinks]
  simp [Spec.hasSection]

theorem Slot.sections_sorted (x : Slot) : x.sections.Pairwise (· < ·) := indices_sorted.filter _

theorem Slot.sectionsFrom_zero (x : Slot) : x.sectionsFrom 0 = x.sections := by simp [sectionsFrom]

theorem Slot.mem_sectionsFrom {b : Nat} {n : LinkNo} : n ∈ x.sectionsFrom b ↔ n ∈ x.sections ∧ b ≤ n.val := by
  simp [sectionsFrom]

theorem Slot.sectionsFrom_succ (x : Slot) (n : LinkNo) : x.sectionsFrom (n.val + 1) = x.sections.filter fun m => decide (n < m) :=
  rfl

/-- What a sorted list keeps from a bound on: its first element there, and what it keeps after that one. -/
theorem filter_from_cons {n : LinkNo} {rest : List LinkNo} {l : List LinkNo} {b : Nat} (sorted : l.Pairwise (· < ·))
    (kept : l.filter (fun m => decide (b ≤ m.val)) = n :: rest) : l.filter (fun m => decide (n.val + 1 ≤ m.val)) = rest := by
  induction l with
  | nil => cases kept
  | cons a l ih =>
    obtain ⟨first, sorted⟩ := List.pairwise_cons.1 sorted
    by_cases from_ : b ≤ a.val
    · rw [List.filter_cons_of_pos (by simpa using from_)] at kept
      obtain ⟨rfl, rfl⟩ := List.cons.inj kept
      rw [List.filter_cons_of_neg (by simp)]
      refine List.filter_congr fun m mem => ?_
      have after : a.val < m.val := first m mem
      simp only [decide_eq_decide]
      omega
    · rw [List.filter_cons_of_neg (by simpa using from_)] at kept
      have mem : n ∈ l := List.mem_of_mem_filter (kept ▸ List.mem_cons_self)
      have before : a.val < n.val := first n mem
      rw [List.filter_cons_of_neg (by simp; omega), ih sorted kept]

theorem Slot.sectionsFrom_cons {n : LinkNo} {rest : List LinkNo} {b : Nat} (kept : x.sectionsFrom b = n :: rest) :
    x.sectionsFrom (n.val + 1) = rest := filter_from_cons x.sections_sorted kept

/-- No section stands between the bound and the first section from it on. -/
theorem Slot.le_of_sectionsFrom {n m : LinkNo} {rest : List LinkNo} {b : Nat} (kept : x.sectionsFrom b = n :: rest)
    (mem : m ∈ x.sections) (from_ : b ≤ m.val) : n ≤ m := by
  have here : m ∈ n :: rest := kept ▸ mem_sectionsFrom.2 ⟨mem, from_⟩
  have sorted : (n :: rest).Pairwise (· < ·) := kept ▸ x.sections_sorted.filter _
  obtain rfl | later := List.mem_cons.1 here
  · exact le_rfl
  · exact le_of_lt ((List.pairwise_cons.1 sorted).1 m later)

/-! ### The position after the header or after a section -/

theorem Spec.sectionWords_eq {n : LinkNo} {r : FragRecord} (here : x.records.get n = some r) :
    Spec.sectionWords s x n =
      [BitVec.ofNat 16 n.val, r.flags.toWord, BitVec.ofNat 16 r.pulseCount, BitVec.ofNat 16 r.wordCount]
        ++ Spec.chainWords s r.cells r.wordCount := by rw [Spec.sectionWords, here]

theorem Spec.ahead_afterSections (s : State) (x : Slot) (b : Nat) :
    Spec.ahead s x (afterSections (x.sectionsFrom b)) = Spec.wordsFrom s x b := by
  rw [Spec.wordsFrom]
  cases kept : x.sectionsFrom b with
  | nil => rfl
  | cons n rest =>
    rw [afterSections, Spec.ahead, Spec.wordsFrom, Slot.sectionsFrom_cons kept, List.flatMap_cons, List.append_assoc]
    rfl

theorem FragRecord.without_zero (r : FragRecord) : r.without 0 = r := rfl

theorem cellsSent_zero {w : Nat} : cellsSent w 0 = 0 := by
  rw [cellsSent]; split
  · next h => rw [← h]
  · rfl

theorem Slot.Framed.recordAt_afterSections (framed : x.Framed) (b : Nat) (m : LinkNo) :
    x.recordAt (afterSections (x.sectionsFrom b)) m =
      if m.val < b then (x.records.get m).map fun r => r.without r.cells.length else x.records.get m := by
  have absent (no : m ∉ x.sections) : x.records.get m = none := by
    by_contra some
    exact no (framed.mem_sections.2 some)
  cases kept : x.sectionsFrom b with
  | nil =>
    rw [afterSections, recordAt]
    split
    · rfl
    · next from_ =>
      rw [absent fun mem => ?_]
      · rfl
      · have : m ∈ x.sectionsFrom b := mem_sectionsFrom.2 ⟨mem, Nat.le_of_not_lt from_⟩
        rw [kept] at this
        cases this
  | cons n rest =>
    have bound : b ≤ n.val := (mem_sectionsFrom.1 (kept ▸ List.mem_cons_self : n ∈ x.sectionsFrom b)).2
    rw [afterSections, recordAt]
    obtain before | rfl | after := lt_trichotomy m n
    · rw [if_pos before]
      split
      · rfl
      · next from_ =>
        rw [absent fun mem => absurd before (not_lt.2 (le_of_sectionsFrom kept mem (Nat.le_of_not_lt from_)))]
        rfl
    · rw [if_neg (lt_irrefl m), if_pos rfl, if_neg (Nat.not_lt.2 bound)]
      cases x.records.get m with
      | none => rfl
      | some r => exact congrArg some (congrArg r.without cellsSent_zero)
    · have later : n.val < m.val := after
      rw [if_neg (not_lt.2 after.le), if_neg after.ne', if_neg (by omega)]

theorem cellsSent_self {w : Nat} : cellsSent w w = (w + 63) / 64 := if_pos rfl

theorem cellsSent_of_lt {w j : Nat} (inside : j < w) : cellsSent w j = j / 64 := if_neg inside.ne

/-- Each word adds a cell exactly when it completes one. -/
theorem cellsSent_succ {w j : Nat} (inside : j < w) :
    cellsSent w (j + 1) = if j % 64 = 63 ∨ j + 1 = w then cellsSent w j + 1 else cellsSent w j := by
  rw [cellsSent_of_lt inside]
  obtain rfl | more : j + 1 = w ∨ j + 1 < w := by omega
  · rw [cellsSent_self, if_pos (.inr rfl)]; omega
  · rw [cellsSent_of_lt more]
    split <;> omega

theorem FragRecord.without_without (r : FragRecord) (j k : Nat) : (r.without j).without k = r.without (j + k) := by
  simp [without]

theorem FragRecord.without_all (r : FragRecord) {k : Nat} (all : r.cells.length ≤ k) : r.without k = r.without r.cells.length := by
  simp [without, List.drop_eq_nil_of_le all]

theorem Slot.record_of_get {n : LinkNo} {r : FragRecord} (here : x.records.get n = some r) :
    x.record n = r := by rw [record, here]; rfl

theorem Slot.emittingAt_records (x : Slot) (p : Position) (n : LinkNo) : (x.emittingAt p).records.get n = x.recordAt p n :=
  Bank.get_build _ _

theorem Slot.record_emittingAt (x : Slot) (p : Position) (n : LinkNo) :
    ∃ k, (x.emittingAt p).record n = (x.record n).without k := by
  have shape : ∃ k, (x.recordAt p n) = (x.records.get n).map fun r => r.without k := by
    have whole : x.records.get n = (x.records.get n).map fun r => r.without 0 := by cases x.records.get n <;> rfl
    cases p with
    | header => exact ⟨0, whole⟩
    | sect m k =>
      rw [recordAt]
      split
      · exact ⟨(x.record n).cells.length, by cases here : x.records.get n <;> simp [record, here]⟩
      · split
        · exact ⟨cellsSent (x.record n).wordCount (k - 4), by cases here : x.records.get n <;> simp [record, here]⟩
        · exact ⟨0, whole⟩
    | trailer | crcNext | endNext => exact ⟨(x.record n).cells.length,
      by cases here : x.records.get n <;> simp [recordAt, record, here]⟩
  obtain ⟨k, shape⟩ := shape
  refine ⟨k, ?_⟩
  rw [record, emittingAt_records, shape, record]
  cases x.records.get n with
  | none => simp [FragRecord.without]
  | some r => rfl

theorem Slot.wordCount_emittingAt (x : Slot) (p : Position) (n : LinkNo) :
    ((x.emittingAt p).record n).wordCount = (x.record n).wordCount := by
  obtain ⟨k, same⟩ := x.record_emittingAt p n
  rw [same]; rfl

theorem Slot.nextPosition_emittingAt (x : Slot) (q p : Position) : (x.emittingAt q).nextPosition p = x.nextPosition p := by
  cases p with
  | sect n k => rw [nextPosition, nextPosition, wordCount_emittingAt]; rfl
  | _ => rfl

theorem Slot.totalWords_emittingAt (x : Slot) (q : Position) : (x.emittingAt q).totalWords = x.totalWords := by
  rw [totalWords, totalWords]
  simp only [wordCount_emittingAt]
  rfl

theorem Slot.nextPosition_sect {n : LinkNo} {r : FragRecord} (here : x.records.get n = some r) (k : Nat) :
    x.nextPosition (.sect n k) =
      if k + 1 < 4 + r.wordCount then .sect n (k + 1) else afterSections (x.sectionsFrom (n.val + 1)) := by
  rw [nextPosition, record_of_get here]; rfl

/-- A word of a section that completes a cell: the 64th of the cell or the last of the record (R141). -/
def Completes (wordCount k : Nat) : Prop := 4 ≤ k ∧ ((k - 4) % 64 = 63 ∨ k - 3 = wordCount)

/-- After a word of a section, its record has lost one cell more when the word completes it. -/
theorem cellsSent_next {w k : Nat} (inside : k < 4 + w) [Decidable (Completes w k)] :
    cellsSent w (k + 1 - 4) = if Completes w k then cellsSent w (k - 4) + 1 else cellsSent w (k - 4) := by
  by_cases header : 4 ≤ k
  · rw [show k + 1 - 4 = k - 4 + 1 by omega, cellsSent_succ (by omega)]
    refine if_congr ?_ rfl rfl
    rw [Completes]
    omega
  · rw [if_neg fun c => header c.1, show k + 1 - 4 = k - 4 by omega]

/-- The records at the position after a word of a section. -/
theorem Slot.Framed.recordAt_next (framed : x.Framed) {n : LinkNo} {r : FragRecord} (here : x.records.get n = some r) {k : Nat}
    (inside : k < 4 + r.wordCount) (m : LinkNo) [Decidable (Completes r.wordCount k)] :
    x.recordAt (x.nextPosition (.sect n k)) m =
      if m = n ∧ Completes r.wordCount k then some (r.without (cellsSent r.wordCount (k - 4) + 1)) else x.recordAt (.sect n k) m :=
        by
  have own : x.recordAt (x.nextPosition (.sect n k)) n = some (r.without (cellsSent r.wordCount (k + 1 - 4))) := by
    rw [nextPosition_sect here]
    split
    · rw [recordAt, if_neg (lt_irrefl n), if_pos rfl, here]; rfl
    · next last =>
      have fits : r.cells.length = (r.wordCount + 63) / 64 := framed.chains n r here
      rw [framed.recordAt_afterSections, if_pos (Nat.lt_succ_self _), here, show k + 1 - 4 = r.wordCount by omega, cellsSent_self,
        ← fits]
      rfl
  have before : x.recordAt (.sect n k) n = some (r.without (cellsSent r.wordCount (k - 4))) := by
    rw [recordAt, if_neg (lt_irrefl n), if_pos rfl, here]; rfl
  by_cases same : m = n
  · subst same
    rw [own, before, cellsSent_next inside]
    by_cases completes : Completes r.wordCount k
    · rw [if_pos completes, if_pos ⟨rfl, completes⟩]
    · rw [if_neg completes, if_neg fun c => completes c.2]
  · rw [if_neg fun c => same c.1, nextPosition_sect here]
    split
    · simp only [recordAt, if_neg same]
    · rw [framed.recordAt_afterSections, recordAt, if_neg same]
      have : m < n ↔ m.val < n.val + 1 := by
        have : m.val ≠ n.val := fun h => same (Fin.ext h)
        rw [Fin.lt_def]; omega
      simp only [this]

/-! ### The word at a position -/

theorem Spec.length_headerWords (s : State) (x : Slot) : (Spec.headerWords s x).length = 20 := rfl

theorem Spec.length_sectionWords {n : LinkNo} {r : FragRecord} (here : x.records.get n = some r) :
    (Spec.sectionWords s x n).length = 4 + r.wordCount := by
  rw [Spec.sectionWords_eq here]; simp [Spec.chainWords]; omega

theorem Slot.Framed.totalWords (framed : x.Framed) (s : State) :
    x.totalWords = (Spec.headerWords s x ++ x.sections.flatMap (Spec.sectionWords s x)).length + 3 := by
  have each : x.sections.map (fun n => Config.sectionHeaderWords + (x.record n).wordCount) =
      x.sections.map fun n => (Spec.sectionWords s x n).length :=
    List.map_congr_left fun n mem => by
      obtain ⟨r, here⟩ := Option.ne_none_iff_exists'.1 (framed.mem_sections.1 mem)
      rw [Slot.record_of_get here, Spec.length_sectionWords here]; rfl
  rw [Slot.totalWords, each, List.length_append, List.length_flatMap, Spec.length_headerWords]
  rfl

theorem Spec.sectionWord_eq {n : LinkNo} {r : FragRecord} (here : x.records.get n = some r) {k : Nat}
    (inside : k < 4 + r.wordCount) :
    (Spec.sectionWords s x n)[k]? = some (s.sectionWord (x.emittingAt (.sect n k)) n k) := by
  have left : (x.emittingAt (.sect n k)).record n = r.without (cellsSent r.wordCount (k - 4)) := by
    refine Slot.record_of_get ?_
    rw [Slot.emittingAt_records, Slot.recordAt, if_neg (lt_irrefl n), if_pos rfl, here]; rfl
  rw [Spec.sectionWords_eq here, State.sectionWord.eq_def, left]
  match k, inside with
  | 0, _ | 1, _ | 2, _ | 3, _ => rfl
  | j + 4, inside =>
    have inChain : j < r.wordCount := by omega
    rw [List.getElem?_append_right (by simp)]
    simp only [List.length_cons, List.length_nil, Nat.reduceAdd, Nat.add_sub_cancel]
    rw [Spec.chainWords, List.getElem?_map, List.getElem?_range inChain, Option.map_some, cellsSent_of_lt inChain]
    simp only [FragRecord.without, List.headD_eq_head?_getD, List.head?_drop, Spec.wordPlace, List.getD_eq_getElem?_getD]
    rfl

theorem State.sectionWord_of_store {u : State} (store : u.store = s.store) (n : LinkNo) (k : Nat) :
    u.sectionWord x n k = s.sectionWord x n k := by
  rw [sectionWord.eq_def, sectionWord.eq_def, store]

/-- The word at a position, and what is ahead of the position after it. -/
theorem Slot.Framed.ahead_eq (framed : x.Framed) (has : x.HasWord p) (u : State) (store : u.store = s.store)
    (header : u.emitter.header = Spec.headerWords s x) :
    ∃ w, u.eventWord (x.emittingAt p) p = some w ∧ Spec.ahead s x p = w :: Spec.ahead s x (x.nextPosition p) := by
  have split {l : List Word} {k : Nat} {w : Word} (at_ : l[k]? = some w) : l.drop k = w :: l.drop (k + 1) := by
    obtain ⟨inside, rfl⟩ := List.getElem?_eq_some_iff.1 at_
    exact List.drop_eq_getElem_cons inside
  cases p with
  | header k =>
    have short : k < (Spec.headerWords s x).length := has
    have at_ : (Spec.headerWords s x)[k]? = some ((Spec.headerWords s x).getD k 0) := by
      rw [List.getD_eq_getElem?_getD, List.getElem?_eq_getElem short]; rfl
    refine ⟨_, by rw [State.eventWord, header], ?_⟩
    rw [Spec.ahead, split at_, nextPosition, List.cons_append]
    congr 1
    split_ifs with more
    · rfl
    · rw [← x.sectionsFrom_zero, Spec.ahead_afterSections, List.drop_eq_nil_of_le (Nat.le_of_not_lt more), List.nil_append]
  | sect n k =>
    obtain ⟨r, here, inside⟩ := has
    refine ⟨s.sectionWord (x.emittingAt (.sect n k)) n k, by rw [State.eventWord, State.sectionWord_of_store store], ?_⟩
    rw [Spec.ahead, split (Spec.sectionWord_eq here inside), nextPosition_sect here, List.cons_append]
    congr 1
    split_ifs with more
    · rfl
    · rw [Spec.ahead_afterSections, List.drop_eq_nil_of_le (by rw [Spec.length_sectionWords here]; omega), List.nil_append]
  | trailer k =>
    refine ⟨_, rfl, ?_⟩
    rw [trailerWord.eq_def, totalWords_emittingAt, framed.totalWords s, atBit_eq]
    match k, has with
    | 0, _ | 1, _ | 2, _ => rfl
  | crcNext | endNext => exact absurd has id

/-! ### One word of the frame -/

/-- After a position with a word stands another one, or the CRC word is next. -/
theorem Slot.Framed.hasWord_next (framed : x.Framed) (has : x.HasWord p) :
    x.HasWord (x.nextPosition p) ∨ x.nextPosition p = .crcNext := by
  have entry (b : Nat) : x.HasWord (afterSections (x.sectionsFrom b)) := by
    cases kept : x.sectionsFrom b with
    | nil => exact Nat.zero_lt_succ 2
    | cons n rest =>
      have mem : n ∈ x.sections := (mem_sectionsFrom.1 (kept ▸ List.mem_cons_self : n ∈ x.sectionsFrom b)).1
      obtain ⟨r, here⟩ := Option.ne_none_iff_exists'.1 (framed.mem_sections.1 mem)
      exact ⟨r, here, by omega⟩
  cases p with
  | header k =>
    rw [nextPosition]
    split_ifs with more
    · exact .inl more
    · exact .inl (x.sectionsFrom_zero ▸ entry 0)
  | sect n k =>
    obtain ⟨r, here, -⟩ := has
    rw [nextPosition_sect here]
    split_ifs with more
    · exact .inl ⟨r, here, more⟩
    · exact .inl (entry _)
  | trailer k =>
    rw [nextPosition]
    split_ifs with more
    · exact .inl more
    · exact .inr rfl
  | crcNext | endNext => exact absurd has id

/-- A link's cells gone from the front of what a sorted list of links gives, when the links before it give none. -/
theorem flatMap_eq_append {n : LinkNo} {l : List LinkNo} {f g : LinkNo → List Nat} {a : List Nat} (sorted : l.Pairwise (· < ·))
    (mem : n ∈ l)
    (before : ∀ m < n, f m = []) (own : f n = a ++ g n) (others : ∀ m, m ≠ n → f m = g m) : l.flatMap f = a ++ l.flatMap g := by
  induction l with
  | nil => cases mem
  | cons m rest ih =>
    obtain ⟨first, sorted⟩ := List.pairwise_cons.1 sorted
    rw [List.flatMap_cons, List.flatMap_cons]
    obtain rfl | later := List.mem_cons.1 mem
    · have same : rest.flatMap f = rest.flatMap g := List.flatMap_congr fun m mem => others m (first m mem).ne'
      rw [own, same, List.append_assoc]
    · have lt : m < n := first n later
      rw [ih sorted later, ← others m lt.ne, before m lt, List.nil_append, List.nil_append]

/-- The record of the link whose section is sent. -/
theorem Slot.recordAt_sect {n : LinkNo} {r : FragRecord} (here : x.records.get n = some r) (k : Nat) :
    x.recordAt (.sect n k) n = some (r.without (cellsSent r.wordCount (k - 4))) := by
  rw [recordAt, if_neg (lt_irrefl n), if_pos rfl, here]; rfl

/-- A word that completes a cell takes the first of the slot's cells (R141). -/
theorem Slot.Framed.cells_next (framed : x.Framed) {n : LinkNo} {r : FragRecord} (here : x.records.get n = some r) {k : Nat}
    (inside : k < 4 + r.wordCount) (completes : Completes r.wordCount k) :
    (x.emittingAt (.sect n k)).cells =
      (r.without (cellsSent r.wordCount (k - 4))).cells.take 1 ++ (x.emittingAt (x.nextPosition (.sect n k))).cells := by
  classical
  have next := framed.recordAt_next here inside
  rw [cells, cells]
  simp only [emittingAt_records]
  refine flatMap_eq_append indices_sorted (mem_indices n) (fun m before => ?_) ?_ fun m other => ?_
  · rw [recordAt, if_pos before]
    cases x.records.get m <;> simp [FragRecord.without]
  · rw [next, if_pos ⟨rfl, completes⟩, recordAt_sect here, ← FragRecord.without_without]
    exact (List.take_append_drop 1 _).symm
  · rw [next, if_neg fun c => other c.1]

/-- The slot after a word that completes a cell. -/
theorem Slot.Framed.emittingAt_completed (framed : x.Framed) {n : LinkNo} {r : FragRecord} (here : x.records.get n = some r)
    {k : Nat}
    (inside : k < 4 + r.wordCount) (completes : Completes r.wordCount k) :
    { x.emittingAt (.sect n k) with
      records := (x.emittingAt (.sect n k)).records.set n (some ((r.without (cellsSent r.wordCount (k - 4))).without 1)) } =
      x.emittingAt (x.nextPosition (.sect n k)) := by
  classical
  have same : (x.emittingAt (.sect n k)).records.set n (some ((r.without (cellsSent r.wordCount (k - 4))).without 1)) =
      (x.emittingAt (x.nextPosition (.sect n k))).records := by
    refine Bank.ext_get fun m => ?_
    rw [Bank.get_set, emittingAt_records, emittingAt_records, framed.recordAt_next here inside, FragRecord.without_without]
    by_cases own : m = n
    · rw [if_pos own, if_pos ⟨own, completes⟩]
    · rw [if_neg own, if_neg fun c => own c.1]
  rw [same]
  rfl

/-- The slot after a word that completes no cell. -/
theorem Slot.Framed.emittingAt_next (framed : x.Framed) (has : x.HasWord p)
    (goes : ∀ n k r, p = .sect n k → x.records.get n = some r → ¬ Completes r.wordCount k) :
    x.emittingAt (x.nextPosition p) = x.emittingAt p := by
  classical
  have same : x.recordAt (x.nextPosition p) = x.recordAt p := by
    funext m
    cases p with
    | header k =>
      rw [nextPosition]
      split_ifs with more
      · rfl
      · rw [← x.sectionsFrom_zero, framed.recordAt_afterSections, if_neg (Nat.not_lt_zero _)]
        rfl
    | sect n k =>
      obtain ⟨r, here, inside⟩ := has
      rw [framed.recordAt_next here inside, if_neg fun c => goes n k r rfl here c.2]
    | trailer k => rw [nextPosition]; split_ifs <;> rfl
    | crcNext | endNext => exact absurd has id
  rw [emittingAt, same]
  rfl

/-- The frame of the slot at get stands at a position, `sent` being the words that have left, the CRC word among them at the end. -/
structure Sending (s : State) (x : Slot) (p : Position) (crc : Word) (sent : List Word) (t : State) : Prop where
  emitter : t.emitter = ⟨.event, false, p, Spec.headerWords s x, crc⟩
  out : Spec.uplinkOut t = Spec.uplinkOut s ++ [.start] ++ sent.map .data
  slot : t.slots.get s.get = x.emittingAt p
  others : ∀ i, i ≠ s.get → t.slots.get i = s.slots.get i
  ring : t.get = s.get ∧ t.fill = s.fill
  cells : t.freeQueue ++ (x.emittingAt p).cells = s.freeQueue ++ x.cells
  store : t.store = s.store

theorem Spec.uplinkOut_emit (t : State) (c : LaneCode) : Spec.uplinkOut (t.emit .uplink c) = Spec.uplinkOut t ++ [c] := by
  simp [Spec.uplinkOut]

/-- A word that completes no cell. -/
theorem Sending.word {sent : List Word} {crc w : Word} (sending : Sending s x p crc sent t)
    (word : t.eventWord (x.emittingAt p) p = some w) (kept : x.emittingAt (x.nextPosition p) = x.emittingAt p)
    (goes : ∀ n k, p = .sect n k → (x.emittingAt p).completesCell p = false) :
    Sending s x (x.nextPosition p) (crcWord crc w) (sent ++ [w]) t.eventFrameWordSent := by
  obtain ⟨emitter, out, slot, others, ⟨get, fill⟩, cells, store⟩ := sending
  have sends := State.eventFrameWordSent_word (s := t) (w := w) (by rw [emitter]) (by rw [emitter])
    (by rw [get, slot, emitter]; exact word)
  have plain : t.eventFrameWordSent =
      { t with emitter := ⟨.event, false, x.nextPosition p, Spec.headerWords s x, crcWord crc w⟩ }.emit .uplink (.data w) := by
    rw [sends, State.sendEventWord, get, slot, emitter, Slot.nextPosition_emittingAt, State.returnAt.eq_def]
    dsimp only
    cases p with
    | sect n k =>
      have no : ((t.slots.get s.get).completesCell (.sect n k)) = false := by rw [slot]; exact goes n k rfl
      exact if_neg (Bool.eq_false_iff.1 no)
    | _ => rfl
  rw [plain]
  refine ⟨rfl, ?_, ?_, others, ⟨get, fill⟩, ?_, store⟩
  · rw [Spec.uplinkOut_emit, List.map_append, ← List.append_assoc, ← out]
    rfl
  · rw [kept, ← slot]
    rfl
  · rw [kept, ← cells]
    rfl

/-- A word that completes a cell (R141). -/
theorem Sending.completed {sent : List Word} {crc w : Word} {n : LinkNo} {k : Nat} {r : FragRecord} (framed : x.Framed)
    (sending : Sending s x (.sect n k) crc sent t) (word : t.eventWord (x.emittingAt (.sect n k)) (.sect n k) = some w)
    (here : x.records.get n = some r) (inside : k < 4 + r.wordCount) (completes : Completes r.wordCount k) :
    Sending s x (x.nextPosition (.sect n k)) (crcWord crc w) (sent ++ [w]) t.eventFrameWordSent := by
  obtain ⟨emitter, out, slot, others, ⟨get, fill⟩, cells, store⟩ := sending
  have sends := State.eventFrameWordSent_word (s := t) (w := w) (by rw [emitter]) (by rw [emitter])
    (by rw [get, slot, emitter]; exact word)
  have left : (x.emittingAt (.sect n k)).records.get n = some (r.without (cellsSent r.wordCount (k - 4))) := by
    rw [Slot.emittingAt_records, Slot.recordAt_sect here]
  have last : (x.emittingAt (.sect n k)).completesCell (.sect n k) = true := (Slot.completesCell_iff left k).2 completes
  have last' : (t.slots.get s.get).completesCell (.sect n k) = true := by rw [slot]; exact last
  have returns : t.eventFrameWordSent =
      (({ t with emitter := ⟨.event, false, x.nextPosition (.sect n k), Spec.headerWords s x, crcWord crc w⟩ }.emit .uplink
        (.data w)).setSlot s.get (x.emittingAt (x.nextPosition (.sect n k)))).returnCells
          ((r.without (cellsSent r.wordCount (k - 4))).cells.take 1) := by
    rw [sends, State.sendEventWord, get, slot, emitter, Slot.nextPosition_emittingAt, State.returnAt]
    refine (if_pos last').trans ?_
    rw [State.returnFirstCell_eq (r := r.without (cellsSent r.wordCount (k - 4))) (by rw [← left, ← slot]; rfl),
      ← State.returnCells_eq, ← framed.emittingAt_completed here inside completes, ← slot]
    rfl
  rw [returns, State.returnCells_frame]
  refine ⟨rfl, ?_, Bank.get_set_self _ _ _, fun i other => ?_, ⟨get, fill⟩, ?_, store⟩
  · have sent_ := Spec.uplinkOut_emit t (.data w)
    rw [List.map_append, ← List.append_assoc, ← out]
    exact sent_
  · exact (Bank.get_set_ne _ _ other).trans (others i other)
  · rw [← cells, framed.cells_next here inside completes, List.append_assoc]
    rfl

/-- One data word of the frame (R157, R161 to R163). -/
theorem Sending.next {sent : List Word} {crc : Word} (framed : x.Framed) (sending : Sending s x p crc sent t) (has : x.HasWord p) :
    ∃ w, Spec.ahead s x p = w :: Spec.ahead s x (x.nextPosition p)
      ∧ Sending s x (x.nextPosition p) (crcWord crc w) (sent ++ [w]) t.eventFrameWordSent := by
  obtain ⟨w, word, ahead⟩ := framed.ahead_eq has t sending.store (by rw [sending.emitter])
  refine ⟨w, ahead, ?_⟩
  by_cases completes : ∃ n k r, p = .sect n k ∧ x.records.get n = some r ∧ Completes r.wordCount k
  · obtain ⟨n, k, r, rfl, here, completes⟩ := completes
    obtain ⟨r', here', inside⟩ := has
    obtain rfl : r = r' := Option.some.inj (here.symm.trans here')
    exact sending.completed framed word here inside completes
  · have goes (n k r) (at_ : p = .sect n k) (here : x.records.get n = some r) : ¬ Completes r.wordCount k :=
      fun c => completes ⟨n, k, r, at_, here, c⟩
    refine sending.word word (framed.emittingAt_next has goes) fun n k at_ => ?_
    subst at_
    obtain ⟨r, here, inside⟩ := has
    have left : (x.emittingAt (.sect n k)).records.get n = some (r.without (cellsSent r.wordCount (k - 4))) := by
      rw [Slot.emittingAt_records, Slot.recordAt_sect here]
    exact Bool.eq_false_iff.2 fun last => goes n k r rfl here ((Slot.completesCell_iff left k).1 last)

/-! ### The whole frame -/

/-- The data words ahead are sent one after another. -/
theorem Sending.rest {sent l : List Word} {crc : Word} (framed : x.Framed) (sending : Sending s x p crc sent t)
    (valid : x.HasWord p ∨ p = .crcNext) (ahead : Spec.ahead s x p = l) :
    Sending s x .crcNext (l.foldl crcWord crc) (sent ++ l) (State.eventFrameWordSent^[l.length] t) := by
  induction l generalizing p sent crc t with
  | nil =>
    obtain has | rfl := valid
    · obtain ⟨w, cons, -⟩ := sending.next framed has
      rw [ahead] at cons
      cases cons
    · rw [List.append_nil]
      exact sending
  | cons w l ih =>
    obtain has | rfl := valid
    · obtain ⟨w', cons, next⟩ := sending.next framed has
      rw [ahead] at cons
      obtain ⟨rfl, later⟩ := List.cons.inj cons
      have whole := ih next (framed.hasWord_next has) later.symm
      rw [List.append_assoc] at whole
      exact whole
    · cases ahead

/-- The CRC word follows them (R162). -/
theorem Sending.crcWordSent {sent : List Word} {crc : Word} (sending : Sending s x .crcNext crc sent t) :
    Sending s x .endNext (crcWord crc crc) (sent ++ [crc]) t.eventFrameWordSent :=
  sending.word (by rw [State.eventWord, sending.emitter]) rfl fun _ _ h => nomatch h

theorem Slot.frameWords_eq (s : State) (x : Slot) : Spec.frameWords s x = Spec.ahead s x (.header 0) := by
  rw [Spec.ahead, Spec.wordsFrom, sectionsFrom_zero, Spec.frameWords, ← sections_eq, List.drop_zero, ← List.append_assoc]
  rfl

theorem Slot.emittingAt_header (x : Slot) (k : Nat) : x.emittingAt (.header k) = { x with state := .emitting } := by
  have same : Bank.build (x.recordAt (.header k)) = x.records := Bank.ext_get fun n => Bank.get_build _ n
  rw [emittingAt, same]

/-- The start of the frame (R159, R160). -/
theorem Sending.start (idle : s.emitter.frame = .none) (live : s.uplink.link = .live) (empty : s.replies = [])
    (closed : (s.slots.get s.get).state = .closed) (go : s.farmFlow = .go) :
    Sending s (s.slots.get s.get) (.header 0) crcStart [] s.eventFrameStart := by
  have may : s.atBoundary = true ∧ s.replies = [] ∧ (s.slots.get s.get).state = .closed ∧ s.farmFlow = .go :=
    ⟨State.atBoundary_iff.2 ⟨idle, live⟩, empty, closed, go⟩
  have filled : (s.slots.get s.get).state ≠ .free := by rw [closed]; decide
  rw [State.eventFrameStart, if_pos may, State.eventHeader_eq filled]
  refine ⟨rfl, ?_, ?_, fun i other => Bank.get_set_ne _ _ other, ⟨rfl, rfl⟩, ?_, rfl⟩
  · have sent := Spec.uplinkOut_emit s .start
    rw [List.map_nil, List.append_nil]
    exact sent
  · rw [Slot.emittingAt_header]
    exact Bank.get_set_self _ _ _
  · rw [Slot.emittingAt_header]
    rfl

/-- Once every word has been sent, the slot owns no cell (R163). -/
theorem Slot.cells_at_end (x : Slot) : (x.emittingAt .endNext).cells = [] :=
  cells_of_empty fun n r here => by
    rw [emittingAt_records, recordAt] at here
    obtain ⟨r', -, rfl⟩ := Option.map_eq_some_iff.1 here
    exact List.drop_length

/-- The END of the frame (R162). -/
theorem State.eventFrameEnd_of_sent {crc : Word} {sent : List Word} (sending : Sending s x .endNext crc sent t) :
    Spec.uplinkOut t.eventFrameEnd = Spec.uplinkOut s ++ [.start] ++ sent.map .data ++ [.endCode]
      ∧ t.eventFrameEnd.slots.get s.get = Slot.empty ∧ (∀ i, i ≠ s.get → t.eventFrameEnd.slots.get i = s.slots.get i)
      ∧ t.eventFrameEnd.get = s.get + 1 ∧ t.eventFrameEnd.fill = s.fill - 1 ∧ t.eventFrameEnd.emitter.frame = .none
      ∧ t.eventFrameEnd.freeQueue = s.freeQueue ++ x.cells ∧ t.eventFrameEnd.store = s.store := by
  obtain ⟨emitter, out, slot, others, ⟨get, fill⟩, cells, store⟩ := sending
  have noCells : (({ t with emitter := Emitter.idle }.emit .uplink .endCode).slots.get t.get).cells = [] := by
    rw [get]
    exact (congrArg Slot.cells slot).trans x.cells_at_end
  have freed := State.freeSlotAtGet_of_empty (s := State.emit { t with emitter := Emitter.idle } .uplink .endCode) noCells
  rw [eventFrameEnd_ready (by rw [emitter]) (by rw [emitter]) (by rw [emitter]), bumpOption_frame, freed, evalTiming_frame]
  refine ⟨?_, ?_, fun i other => ?_, congrArg (· + 1) get, congrArg (· - 1) fill, rfl, ?_, store⟩
  · rw [← out]
    exact Spec.uplinkOut_emit t .endCode
  · rw [← get]
    exact Bank.get_set_self _ _ _
  · have other' : i ≠ t.get := by rw [get]; exact other
    exact (Bank.get_set_ne t.slots Slot.empty other').trans (others i other)
  · rw [← cells, x.cells_at_end, List.append_nil]
    rfl

theorem Spec.after_words (n : Nat) (cs : List Instr) (s : State) :
    Spec.after (List.replicate n .eventFrameWordSent ++ cs) s = Spec.after cs (State.eventFrameWordSent^[n] s) := by
  induction n generalizing s with
  | zero => rfl
  | succ n ih =>
    have executed : exec .eventFrameWordSent s = .next s.eventFrameWordSent := rfl
    rw [List.replicate_succ, List.cons_append, Spec.after_cons executed, ih]
    rfl

/-- Settles O48: each position of the frame tells what of the slot has been sent, so the words and the cells that leave are those
between one position and the next. -/
theorem eventFrameIsSentWhole : Obligations.EventFrameIsSentWhole := by
  intro s x words t idle live empty closed go records chains
  have framed : x.Framed := ⟨records, chains⟩
  have started := Sending.start idle live empty closed go
  have sent := started.rest framed (.inl (Nat.zero_lt_succ 19)) (Slot.frameWords_eq s x).symm
  have checked := sent.crcWordSent
  have executed : exec .eventFrameStart s = .next s.eventFrameStart := rfl
  have final : t = (State.eventFrameWordSent (State.eventFrameWordSent^[words.length] s.eventFrameStart)).eventFrameEnd := by
    rw [← Function.iterate_succ_apply' State.eventFrameWordSent]
    show Spec.after _ s = _
    rw [List.append_assoc, List.singleton_append, Spec.after_cons executed, Spec.after_words]
    rfl
  rw [final]
  exact State.eventFrameEnd_of_sent checked

end Sys2Proof.Machine
end
